-- ==== Sys2Proof/Word.lean ====
section
/-!
DEFINITION. The values the block works on (00_scope.md R7, R10; 30_encoding.md R104): words, register offsets,
samples, scalars and complex scalars, and the three closed sets of names the rules use for them.
-/

namespace Sys2Proof

/-- A word is 32 bits, bit 31 the most significant (R10); every register is one (R30). -/
abbrev Word := BitVec 32

/-- A byte offset of the register space as a bus access carries it, `offset[7:0]` (R90). -/
abbrev Offset := BitVec 8

/-- A sample on either port: two words, each a float32 bit pattern (R35, R104). -/
structure Sample where
  re : Word
  im : Word
  deriving DecidableEq, Repr, Inhabited

/-- A complex value is a pair of scalars of the carrier `S` (R7). -/
structure Cplx (S : Type) where
  re : S
  im : S
  deriving DecidableEq, Repr, Inhabited

/-- A scalar as plain data: its number in a listing of a countable carrier (R7). The machine is written over any carrier;
this is the carrier of the one machine whose state can be written out (DESIGN CHOICE, log entry 2). -/
structure Scalar where
  code : Nat
  deriving DecidableEq, Repr, Inhabited

/-- The scalar `zero` (R7) is the one numbered 0 (log entry 2). -/
def Scalar.zero : Scalar := ⟨0⟩

/-- The two kinds of sample (R22, R104). -/
inductive Mode where
  /-- 32-bit float, `CTRL.MODE` = 0. -/
  | real
  /-- pair of 32-bit floats, `CTRL.MODE` = 1. -/
  | complex
  deriving DecidableEq, Repr, Inhabited

/-- The two agents that act on the state, and no more (R3). -/
inductive Agent where
  | host
  | engine
  deriving DecidableEq, Repr, Inhabited

/-- The order of the four bytes of a word when a sample is serialised outside the block (R6, R64). -/
inductive ByteOrder where
  | little
  | big
  deriving DecidableEq, Repr, Inhabited

end Sys2Proof
end

