-- ==== Sys2Proof/Syntax.lean ====
section
/-!
DEFINITION. What the host can do to the block (30_encoding.md R90), and the block's operations: one constructor of
`Instr` per row of spec/opcode_table.json, in the table's order.
-/

namespace Sys2Proof

/-- The registers of the register map, by name (R30); offset `0x3C` is reserved and has no name. -/
inductive Reg where
  /-- `CMD`, WO -/
  | cmd
  /-- `STATUS`, RO bits 5:0, write-1-to-clear bits 10:8 -/
  | status
  /-- `CTRL`, RW -/
  | ctrl
  /-- `CFG_F`, RW -/
  | cfgF
  /-- `CFG_WND`, RW -/
  | cfgWnd
  /-- `CFG_LAT`, RW -/
  | cfgLat
  /-- `CFG_THR`, RW -/
  | cfgThr
  /-- `EFF_F`, RO -/
  | effF
  /-- `EFF_O`, RO -/
  | effO
  /-- `EFF_W`, RO -/
  | effW
  /-- `EFF_L`, RO -/
  | effL
  /-- `RATIO`, RO -/
  | ratio
  /-- `AVG`, RO -/
  | avg
  /-- `IN_LEVEL`, RO -/
  | inLevel
  /-- `OUT_LEVEL`, RO -/
  | outLevel
  deriving DecidableEq, Repr

/-- One request of the host, as the block's interfaces carry it (R90). -/
inductive Request where
  /-- a register read: byte offset and access size in bytes -/
  | read (offset : Offset) (size : Nat)
  /-- a register write: byte offset, written word and access size in bytes -/
  | write (offset : Offset) (data : Word) (size : Nat)
  /-- a sample transfer, by its 65-bit key `{dir, re[31:0], im[31:0]}`; `re` and `im` are no operands of a POP -/
  | transfer (key : BitVec 65)
  /-- the reset input is asserted and released -/
  | reset
  deriving DecidableEq, Repr

/-- The operations of the block. -/
inductive Instr where
  /-- `NOP`: a write of `0x00000000` to `CMD` (R120). -/
  | nop
  /-- `INIT`: a write of `0x00000001` to `CMD` (R121). -/
  | init
  /-- `PROC`: a write of `0x00000002` to `CMD` (R150). -/
  | proc
  /-- `FLUSH`: a write of `0x00000003` to `CMD` (R162). -/
  | flush
  /-- `SETTHR`: a write of `0x00000004` to `CMD` (R130). -/
  | setthr
  /-- `STOP`: a write of `0x00000005` to `CMD` (R134). -/
  | stop
  /-- `CMD_RESERVED_6_7`: a reserved command word, `0x00000006` to `0x00000007` (R100). -/
  | cmdReserved6To7 (code : Word)
  /-- `CMD_RESERVED_BIT3`: a reserved command word, `0x00000008` to `0x0000000F` (R100). -/
  | cmdReservedBit3 (code : Word)
  /-- `CMD_RESERVED_BIT4`: a reserved command word, `0x00000010` to `0x0000001F` (R100). -/
  | cmdReservedBit4 (code : Word)
  /-- `CMD_RESERVED_BIT5`: a reserved command word, `0x00000020` to `0x0000003F` (R100). -/
  | cmdReservedBit5 (code : Word)
  /-- `CMD_RESERVED_BIT6`: a reserved command word, `0x00000040` to `0x0000007F` (R100). -/
  | cmdReservedBit6 (code : Word)
  /-- `CMD_RESERVED_BIT7`: a reserved command word, `0x00000080` to `0x000000FF` (R100). -/
  | cmdReservedBit7 (code : Word)
  /-- `CMD_RESERVED_BIT8`: a reserved command word, `0x00000100` to `0x000001FF` (R100). -/
  | cmdReservedBit8 (code : Word)
  /-- `CMD_RESERVED_BIT9`: a reserved command word, `0x00000200` to `0x000003FF` (R100). -/
  | cmdReservedBit9 (code : Word)
  /-- `CMD_RESERVED_BIT10`: a reserved command word, `0x00000400` to `0x000007FF` (R100). -/
  | cmdReservedBit10 (code : Word)
  /-- `CMD_RESERVED_BIT11`: a reserved command word, `0x00000800` to `0x00000FFF` (R100). -/
  | cmdReservedBit11 (code : Word)
  /-- `CMD_RESERVED_BIT12`: a reserved command word, `0x00001000` to `0x00001FFF` (R100). -/
  | cmdReservedBit12 (code : Word)
  /-- `CMD_RESERVED_BIT13`: a reserved command word, `0x00002000` to `0x00003FFF` (R100). -/
  | cmdReservedBit13 (code : Word)
  /-- `CMD_RESERVED_BIT14`: a reserved command word, `0x00004000` to `0x00007FFF` (R100). -/
  | cmdReservedBit14 (code : Word)
  /-- `CMD_RESERVED_BIT15`: a reserved command word, `0x00008000` to `0x0000FFFF` (R100). -/
  | cmdReservedBit15 (code : Word)
  /-- `CMD_RESERVED_BIT16`: a reserved command word, `0x00010000` to `0x0001FFFF` (R100). -/
  | cmdReservedBit16 (code : Word)
  /-- `CMD_RESERVED_BIT17`: a reserved command word, `0x00020000` to `0x0003FFFF` (R100). -/
  | cmdReservedBit17 (code : Word)
  /-- `CMD_RESERVED_BIT18`: a reserved command word, `0x00040000` to `0x0007FFFF` (R100). -/
  | cmdReservedBit18 (code : Word)
  /-- `CMD_RESERVED_BIT19`: a reserved command word, `0x00080000` to `0x000FFFFF` (R100). -/
  | cmdReservedBit19 (code : Word)
  /-- `CMD_RESERVED_BIT20`: a reserved command word, `0x00100000` to `0x001FFFFF` (R100). -/
  | cmdReservedBit20 (code : Word)
  /-- `CMD_RESERVED_BIT21`: a reserved command word, `0x00200000` to `0x003FFFFF` (R100). -/
  | cmdReservedBit21 (code : Word)
  /-- `CMD_RESERVED_BIT22`: a reserved command word, `0x00400000` to `0x007FFFFF` (R100). -/
  | cmdReservedBit22 (code : Word)
  /-- `CMD_RESERVED_BIT23`: a reserved command word, `0x00800000` to `0x00FFFFFF` (R100). -/
  | cmdReservedBit23 (code : Word)
  /-- `CMD_RESERVED_BIT24`: a reserved command word, `0x01000000` to `0x01FFFFFF` (R100). -/
  | cmdReservedBit24 (code : Word)
  /-- `CMD_RESERVED_BIT25`: a reserved command word, `0x02000000` to `0x03FFFFFF` (R100). -/
  | cmdReservedBit25 (code : Word)
  /-- `CMD_RESERVED_BIT26`: a reserved command word, `0x04000000` to `0x07FFFFFF` (R100). -/
  | cmdReservedBit26 (code : Word)
  /-- `CMD_RESERVED_BIT27`: a reserved command word, `0x08000000` to `0x0FFFFFFF` (R100). -/
  | cmdReservedBit27 (code : Word)
  /-- `CMD_RESERVED_BIT28`: a reserved command word, `0x10000000` to `0x1FFFFFFF` (R100). -/
  | cmdReservedBit28 (code : Word)
  /-- `CMD_RESERVED_BIT29`: a reserved command word, `0x20000000` to `0x3FFFFFFF` (R100). -/
  | cmdReservedBit29 (code : Word)
  /-- `CMD_RESERVED_BIT30`: a reserved command word, `0x40000000` to `0x7FFFFFFF` (R100). -/
  | cmdReservedBit30 (code : Word)
  /-- `CMD_RESERVED_BIT31`: a reserved command word, `0x80000000` to `0xFFFFFFFF` (R100). -/
  | cmdReservedBit31 (code : Word)
  /-- `WR_STATUS`: a write of `STATUS` (R31, R60). -/
  | wrStatus (data : Word)
  /-- `WR_CTRL`: a write of `CTRL` (R32, R60). -/
  | wrCtrl (data : Word)
  /-- `WR_CFG_F`: a write of `CFG_F` (R21, R60). -/
  | wrCfgF (data : Word)
  /-- `WR_CFG_WND`: a write of `CFG_WND` (R21, R60). -/
  | wrCfgWnd (data : Word)
  /-- `WR_CFG_LAT`: a write of `CFG_LAT` (R21, R60). -/
  | wrCfgLat (data : Word)
  /-- `WR_CFG_THR`: a write of `CFG_THR` (R21, R60). -/
  | wrCfgThr (data : Word)
  /-- `WR_EFF_F_ILLEGAL`: a write to a read-only register (R243). -/
  | wrEffFIllegal (data : Word)
  /-- `WR_EFF_O_ILLEGAL`: a write to a read-only register (R243). -/
  | wrEffOIllegal (data : Word)
  /-- `WR_EFF_W_ILLEGAL`: a write to a read-only register (R243). -/
  | wrEffWIllegal (data : Word)
  /-- `WR_EFF_L_ILLEGAL`: a write to a read-only register (R243). -/
  | wrEffLIllegal (data : Word)
  /-- `WR_RATIO_ILLEGAL`: a write to a read-only register (R243). -/
  | wrRatioIllegal (data : Word)
  /-- `WR_AVG_ILLEGAL`: a write to a read-only register (R243). -/
  | wrAvgIllegal (data : Word)
  /-- `WR_IN_LEVEL_ILLEGAL`: a write to a read-only register (R243). -/
  | wrInLevelIllegal (data : Word)
  /-- `WR_OUT_LEVEL_ILLEGAL`: a write to a read-only register (R243). -/
  | wrOutLevelIllegal (data : Word)
  /-- `WR_RESERVED_3C`: a write to an offset that is no register's (R61). -/
  | wrReserved3C (data : Word)
  /-- `WR_UNMAPPED_40_7F`: a write to an offset that is no register's (R61). -/
  | wrUnmapped40To7F (offset : Offset) (data : Word)
  /-- `WR_UNMAPPED_80_FF`: a write to an offset that is no register's (R61). -/
  | wrUnmapped80ToFF (offset : Offset) (data : Word)
  /-- `WR_MISALIGNED_1`: a write to an offset that is no register's (R61). -/
  | wrMisaligned1 (offset : Offset) (data : Word)
  /-- `WR_MISALIGNED_2`: a write to an offset that is no register's (R61). -/
  | wrMisaligned2 (offset : Offset) (data : Word)
  /-- `WR_MISALIGNED_3`: a write to an offset that is no register's (R61). -/
  | wrMisaligned3 (offset : Offset) (data : Word)
  /-- `RD_CMD`: a read of `CMD` (R30, R60). -/
  | rdCmd
  /-- `RD_STATUS`: a read of `STATUS` (R31, R60). -/
  | rdStatus
  /-- `RD_CTRL`: a read of `CTRL` (R32, R60). -/
  | rdCtrl
  /-- `RD_CFG_F`: a read of `CFG_F` (R21, R60). -/
  | rdCfgF
  /-- `RD_CFG_WND`: a read of `CFG_WND` (R21, R60). -/
  | rdCfgWnd
  /-- `RD_CFG_LAT`: a read of `CFG_LAT` (R21, R60). -/
  | rdCfgLat
  /-- `RD_CFG_THR`: a read of `CFG_THR` (R21, R60). -/
  | rdCfgThr
  /-- `RD_EFF_F`: a read of `EFF_F` (R22, R60). -/
  | rdEffF
  /-- `RD_EFF_O`: a read of `EFF_O` (R22, R60). -/
  | rdEffO
  /-- `RD_EFF_W`: a read of `EFF_W` (R22, R60). -/
  | rdEffW
  /-- `RD_EFF_L`: a read of `EFF_L` (R22, R60). -/
  | rdEffL
  /-- `RD_RATIO`: a read of `RATIO` (R23, R60). -/
  | rdRatio
  /-- `RD_AVG`: a read of `AVG` (R23, R60). -/
  | rdAvg
  /-- `RD_IN_LEVEL`: a read of `IN_LEVEL` (R30, R60). -/
  | rdInLevel
  /-- `RD_OUT_LEVEL`: a read of `OUT_LEVEL` (R30, R60). -/
  | rdOutLevel
  /-- `RD_RESERVED_3C`: a read of an offset that is no register's (R61). -/
  | rdReserved3C
  /-- `RD_UNMAPPED_40_7F`: a read of an offset that is no register's (R61). -/
  | rdUnmapped40To7F (offset : Offset)
  /-- `RD_UNMAPPED_80_FF`: a read of an offset that is no register's (R61). -/
  | rdUnmapped80ToFF (offset : Offset)
  /-- `RD_MISALIGNED_1`: a read of an offset that is no register's (R61). -/
  | rdMisaligned1 (offset : Offset)
  /-- `RD_MISALIGNED_2`: a read of an offset that is no register's (R61). -/
  | rdMisaligned2 (offset : Offset)
  /-- `RD_MISALIGNED_3`: a read of an offset that is no register's (R61). -/
  | rdMisaligned3 (offset : Offset)
  /-- `PUSH`: a sample enters the input port (R212). -/
  | push (re : Word) (im : Word)
  /-- `POP`: a sample leaves the output port (R214). -/
  | pop
  /-- `AUTOSTEP`: the engine's own step in background mode; it has no encoding (R90, R220). -/
  | autostep
  /-- `RESET`: the reset input; it has no key (R90, R270). -/
  | reset
  deriving DecidableEq, Repr

end Sys2Proof
end

