-- ==== Sys2Proof/WellFormed.lean ====
section
/-!
DEFINITION. Which terms of `Instr` stand for a row of spec/opcode_table.json: the reserved command words and the offsets
of no register carry the word or offset itself, and it must be one of that row's (30_encoding.md R100; 20_memory.md R61).
-/

namespace Sys2Proof

/-- The word lies in `lo .. hi`. -/
def Word.inRange (lo hi : Nat) (w : Word) : Bool := decide (lo ≤ w.toNat ∧ w.toNat ≤ hi)

/-- The offset lies below `0x40` and leaves `k` modulo 4 (R61). -/
def Offset.misaligned (k : Nat) (o : Offset) : Bool := decide (o.toNat < 0x40 ∧ o.toNat % 4 = k)

/-- The offset lies in `0x40 .. 0x7F`. -/
def Offset.in40To7F (o : Offset) : Bool := decide (0x40 ≤ o.toNat ∧ o.toNat ≤ 0x7F)

/-- The offset lies in `0x80 .. 0xFF`. -/
def Offset.in80ToFF (o : Offset) : Bool := decide (0x80 ≤ o.toNat)

/-- The term stands for a word, offset or transfer of its own row. -/
def Instr.wellFormed : Instr → Bool
  | .nop => true
  | .init => true
  | .proc => true
  | .flush => true
  | .setthr => true
  | .stop => true
  | .cmdReserved6To7 code => Word.inRange 0x00000006 0x00000007 code
  | .cmdReservedBit3 code => Word.inRange 0x00000008 0x0000000F code
  | .cmdReservedBit4 code => Word.inRange 0x00000010 0x0000001F code
  | .cmdReservedBit5 code => Word.inRange 0x00000020 0x0000003F code
  | .cmdReservedBit6 code => Word.inRange 0x00000040 0x0000007F code
  | .cmdReservedBit7 code => Word.inRange 0x00000080 0x000000FF code
  | .cmdReservedBit8 code => Word.inRange 0x00000100 0x000001FF code
  | .cmdReservedBit9 code => Word.inRange 0x00000200 0x000003FF code
  | .cmdReservedBit10 code => Word.inRange 0x00000400 0x000007FF code
  | .cmdReservedBit11 code => Word.inRange 0x00000800 0x00000FFF code
  | .cmdReservedBit12 code => Word.inRange 0x00001000 0x00001FFF code
  | .cmdReservedBit13 code => Word.inRange 0x00002000 0x00003FFF code
  | .cmdReservedBit14 code => Word.inRange 0x00004000 0x00007FFF code
  | .cmdReservedBit15 code => Word.inRange 0x00008000 0x0000FFFF code
  | .cmdReservedBit16 code => Word.inRange 0x00010000 0x0001FFFF code
  | .cmdReservedBit17 code => Word.inRange 0x00020000 0x0003FFFF code
  | .cmdReservedBit18 code => Word.inRange 0x00040000 0x0007FFFF code
  | .cmdReservedBit19 code => Word.inRange 0x00080000 0x000FFFFF code
  | .cmdReservedBit20 code => Word.inRange 0x00100000 0x001FFFFF code
  | .cmdReservedBit21 code => Word.inRange 0x00200000 0x003FFFFF code
  | .cmdReservedBit22 code => Word.inRange 0x00400000 0x007FFFFF code
  | .cmdReservedBit23 code => Word.inRange 0x00800000 0x00FFFFFF code
  | .cmdReservedBit24 code => Word.inRange 0x01000000 0x01FFFFFF code
  | .cmdReservedBit25 code => Word.inRange 0x02000000 0x03FFFFFF code
  | .cmdReservedBit26 code => Word.inRange 0x04000000 0x07FFFFFF code
  | .cmdReservedBit27 code => Word.inRange 0x08000000 0x0FFFFFFF code
  | .cmdReservedBit28 code => Word.inRange 0x10000000 0x1FFFFFFF code
  | .cmdReservedBit29 code => Word.inRange 0x20000000 0x3FFFFFFF code
  | .cmdReservedBit30 code => Word.inRange 0x40000000 0x7FFFFFFF code
  | .cmdReservedBit31 code => Word.inRange 0x80000000 0xFFFFFFFF code
  | .wrStatus _ => true
  | .wrCtrl _ => true
  | .wrCfgF _ => true
  | .wrCfgWnd _ => true
  | .wrCfgLat _ => true
  | .wrCfgThr _ => true
  | .wrEffFIllegal _ => true
  | .wrEffOIllegal _ => true
  | .wrEffWIllegal _ => true
  | .wrEffLIllegal _ => true
  | .wrRatioIllegal _ => true
  | .wrAvgIllegal _ => true
  | .wrInLevelIllegal _ => true
  | .wrOutLevelIllegal _ => true
  | .wrReserved3C _ => true
  | .wrUnmapped40To7F offset _ => Offset.in40To7F offset
  | .wrUnmapped80ToFF offset _ => Offset.in80ToFF offset
  | .wrMisaligned1 offset _ => Offset.misaligned 1 offset
  | .wrMisaligned2 offset _ => Offset.misaligned 2 offset
  | .wrMisaligned3 offset _ => Offset.misaligned 3 offset
  | .rdCmd => true
  | .rdStatus => true
  | .rdCtrl => true
  | .rdCfgF => true
  | .rdCfgWnd => true
  | .rdCfgLat => true
  | .rdCfgThr => true
  | .rdEffF => true
  | .rdEffO => true
  | .rdEffW => true
  | .rdEffL => true
  | .rdRatio => true
  | .rdAvg => true
  | .rdInLevel => true
  | .rdOutLevel => true
  | .rdReserved3C => true
  | .rdUnmapped40To7F offset => Offset.in40To7F offset
  | .rdUnmapped80ToFF offset => Offset.in80ToFF offset
  | .rdMisaligned1 offset => Offset.misaligned 1 offset
  | .rdMisaligned2 offset => Offset.misaligned 2 offset
  | .rdMisaligned3 offset => Offset.misaligned 3 offset
  | .push _ _ => true
  | .pop => true
  | .autostep => true
  | .reset => true

end Sys2Proof
end

