-- ==== Sys2Proof/Decode.lean ====
section
/-!
DEFINITION. Reading a request of the host as an operation, the requests of an operation, and the rows of
spec/opcode_table.json as masks over the keys of 30_encoding.md R90.
-/

namespace Sys2Proof

/-- Why a request is no row of the table. -/
inductive DecodeError where
  /-- an access of a size other than 4 bytes: the key has no size, and the access is an error whatever its offset (R61, R90) -/
  | accessSize (size : Nat)
  deriving DecidableEq, Repr

/-- A word written to `CMD` (R92, R96, R100): all 32 bits are the code. -/
def decodeCommand (code : Word) : Instr :=
  let n := code.toNat
  if n = 0 then .nop
  else if n = 1 then .init
  else if n = 2 then .proc
  else if n = 3 then .flush
  else if n = 4 then .setthr
  else if n = 5 then .stop
  else if n < 0x8 then .cmdReserved6To7 code
  else if n < 0x10 then .cmdReservedBit3 code
  else if n < 0x20 then .cmdReservedBit4 code
  else if n < 0x40 then .cmdReservedBit5 code
  else if n < 0x80 then .cmdReservedBit6 code
  else if n < 0x100 then .cmdReservedBit7 code
  else if n < 0x200 then .cmdReservedBit8 code
  else if n < 0x400 then .cmdReservedBit9 code
  else if n < 0x800 then .cmdReservedBit10 code
  else if n < 0x1000 then .cmdReservedBit11 code
  else if n < 0x2000 then .cmdReservedBit12 code
  else if n < 0x4000 then .cmdReservedBit13 code
  else if n < 0x8000 then .cmdReservedBit14 code
  else if n < 0x10000 then .cmdReservedBit15 code
  else if n < 0x20000 then .cmdReservedBit16 code
  else if n < 0x40000 then .cmdReservedBit17 code
  else if n < 0x80000 then .cmdReservedBit18 code
  else if n < 0x100000 then .cmdReservedBit19 code
  else if n < 0x200000 then .cmdReservedBit20 code
  else if n < 0x400000 then .cmdReservedBit21 code
  else if n < 0x800000 then .cmdReservedBit22 code
  else if n < 0x1000000 then .cmdReservedBit23 code
  else if n < 0x2000000 then .cmdReservedBit24 code
  else if n < 0x4000000 then .cmdReservedBit25 code
  else if n < 0x8000000 then .cmdReservedBit26 code
  else if n < 0x10000000 then .cmdReservedBit27 code
  else if n < 0x20000000 then .cmdReservedBit28 code
  else if n < 0x40000000 then .cmdReservedBit29 code
  else if n < 0x80000000 then .cmdReservedBit30 code
  else .cmdReservedBit31 code

/-- A four-byte write (R30, R60, R61). -/
def decodeWrite (offset : Offset) (data : Word) : Instr :=
  let n := offset.toNat
  if 0x80 ≤ n then .wrUnmapped80ToFF offset data
  else if 0x40 ≤ n then .wrUnmapped40To7F offset data
  else if n % 4 = 1 then .wrMisaligned1 offset data
  else if n % 4 = 2 then .wrMisaligned2 offset data
  else if n % 4 = 3 then .wrMisaligned3 offset data
  else match n / 4 with
    | 0 => decodeCommand data
    | 1 => .wrStatus data
    | 2 => .wrCtrl data
    | 3 => .wrCfgF data
    | 4 => .wrCfgWnd data
    | 5 => .wrCfgLat data
    | 6 => .wrCfgThr data
    | 7 => .wrEffFIllegal data
    | 8 => .wrEffOIllegal data
    | 9 => .wrEffWIllegal data
    | 10 => .wrEffLIllegal data
    | 11 => .wrRatioIllegal data
    | 12 => .wrAvgIllegal data
    | 13 => .wrInLevelIllegal data
    | 14 => .wrOutLevelIllegal data
    | _ => .wrReserved3C data

/-- A four-byte read (R30, R60, R61). -/
def decodeRead (offset : Offset) : Instr :=
  let n := offset.toNat
  if 0x80 ≤ n then .rdUnmapped80ToFF offset
  else if 0x40 ≤ n then .rdUnmapped40To7F offset
  else if n % 4 = 1 then .rdMisaligned1 offset
  else if n % 4 = 2 then .rdMisaligned2 offset
  else if n % 4 = 3 then .rdMisaligned3 offset
  else match n / 4 with
    | 0 => .rdCmd
    | 1 => .rdStatus
    | 2 => .rdCtrl
    | 3 => .rdCfgF
    | 4 => .rdCfgWnd
    | 5 => .rdCfgLat
    | 6 => .rdCfgThr
    | 7 => .rdEffF
    | 8 => .rdEffO
    | 9 => .rdEffW
    | 10 => .rdEffL
    | 11 => .rdRatio
    | 12 => .rdAvg
    | 13 => .rdInLevel
    | 14 => .rdOutLevel
    | _ => .rdReserved3C

/-- A sample transfer by its key (R90): bit 64 is `dir`, 0 for PUSH and 1 for POP; `re` and `im` of a POP are results. -/
def decodeTransfer (key : BitVec 65) : Instr :=
  if key.getLsbD 64 then .pop else .push (key.extractLsb' 32 32) (key.extractLsb' 0 32)

/-- The operation of a request. Every request decodes but an access of a size other than 4 bytes. -/
def decode : Request → Except DecodeError Instr
  | .read offset size => if size = 4 then .ok (decodeRead offset) else .error (.accessSize size)
  | .write offset data size => if size = 4 then .ok (decodeWrite offset data) else .error (.accessSize size)
  | .transfer key => .ok (decodeTransfer key)
  | .reset => .ok .reset

/-- The command write of a word (R92). -/
def commandWrite (code : Word) : Request := .write 0x00 code 4

/-- The key of a PUSH (R90). -/
def pushKey (re im : Word) : BitVec 65 := 0#1 ++ re ++ im

/-- The key of a POP, its result fields zero (R90). -/
def popKey : BitVec 65 := 1#1 ++ 0#32 ++ 0#32

/-- The request that stands for an operation; AUTOSTEP has none (R90, R220). -/
def encode : Instr → Option Request
  | .nop => some (commandWrite 0x00000000)
  | .init => some (commandWrite 0x00000001)
  | .proc => some (commandWrite 0x00000002)
  | .flush => some (commandWrite 0x00000003)
  | .setthr => some (commandWrite 0x00000004)
  | .stop => some (commandWrite 0x00000005)
  | .cmdReserved6To7 code => some (commandWrite code)
  | .cmdReservedBit3 code => some (commandWrite code)
  | .cmdReservedBit4 code => some (commandWrite code)
  | .cmdReservedBit5 code => some (commandWrite code)
  | .cmdReservedBit6 code => some (commandWrite code)
  | .cmdReservedBit7 code => some (commandWrite code)
  | .cmdReservedBit8 code => some (commandWrite code)
  | .cmdReservedBit9 code => some (commandWrite code)
  | .cmdReservedBit10 code => some (commandWrite code)
  | .cmdReservedBit11 code => some (commandWrite code)
  | .cmdReservedBit12 code => some (commandWrite code)
  | .cmdReservedBit13 code => some (commandWrite code)
  | .cmdReservedBit14 code => some (commandWrite code)
  | .cmdReservedBit15 code => some (commandWrite code)
  | .cmdReservedBit16 code => some (commandWrite code)
  | .cmdReservedBit17 code => some (commandWrite code)
  | .cmdReservedBit18 code => some (commandWrite code)
  | .cmdReservedBit19 code => some (commandWrite code)
  | .cmdReservedBit20 code => some (commandWrite code)
  | .cmdReservedBit21 code => some (commandWrite code)
  | .cmdReservedBit22 code => some (commandWrite code)
  | .cmdReservedBit23 code => some (commandWrite code)
  | .cmdReservedBit24 code => some (commandWrite code)
  | .cmdReservedBit25 code => some (commandWrite code)
  | .cmdReservedBit26 code => some (commandWrite code)
  | .cmdReservedBit27 code => some (commandWrite code)
  | .cmdReservedBit28 code => some (commandWrite code)
  | .cmdReservedBit29 code => some (commandWrite code)
  | .cmdReservedBit30 code => some (commandWrite code)
  | .cmdReservedBit31 code => some (commandWrite code)
  | .wrStatus data => some (.write 0x04 data 4)
  | .wrCtrl data => some (.write 0x08 data 4)
  | .wrCfgF data => some (.write 0x0C data 4)
  | .wrCfgWnd data => some (.write 0x10 data 4)
  | .wrCfgLat data => some (.write 0x14 data 4)
  | .wrCfgThr data => some (.write 0x18 data 4)
  | .wrEffFIllegal data => some (.write 0x1C data 4)
  | .wrEffOIllegal data => some (.write 0x20 data 4)
  | .wrEffWIllegal data => some (.write 0x24 data 4)
  | .wrEffLIllegal data => some (.write 0x28 data 4)
  | .wrRatioIllegal data => some (.write 0x2C data 4)
  | .wrAvgIllegal data => some (.write 0x30 data 4)
  | .wrInLevelIllegal data => some (.write 0x34 data 4)
  | .wrOutLevelIllegal data => some (.write 0x38 data 4)
  | .wrReserved3C data => some (.write 0x3C data 4)
  | .wrUnmapped40To7F offset data => some (.write offset data 4)
  | .wrUnmapped80ToFF offset data => some (.write offset data 4)
  | .wrMisaligned1 offset data => some (.write offset data 4)
  | .wrMisaligned2 offset data => some (.write offset data 4)
  | .wrMisaligned3 offset data => some (.write offset data 4)
  | .rdCmd => some (.read 0x00 4)
  | .rdStatus => some (.read 0x04 4)
  | .rdCtrl => some (.read 0x08 4)
  | .rdCfgF => some (.read 0x0C 4)
  | .rdCfgWnd => some (.read 0x10 4)
  | .rdCfgLat => some (.read 0x14 4)
  | .rdCfgThr => some (.read 0x18 4)
  | .rdEffF => some (.read 0x1C 4)
  | .rdEffO => some (.read 0x20 4)
  | .rdEffW => some (.read 0x24 4)
  | .rdEffL => some (.read 0x28 4)
  | .rdRatio => some (.read 0x2C 4)
  | .rdAvg => some (.read 0x30 4)
  | .rdInLevel => some (.read 0x34 4)
  | .rdOutLevel => some (.read 0x38 4)
  | .rdReserved3C => some (.read 0x3C 4)
  | .rdUnmapped40To7F offset => some (.read offset 4)
  | .rdUnmapped80ToFF offset => some (.read offset 4)
  | .rdMisaligned1 offset => some (.read offset 4)
  | .rdMisaligned2 offset => some (.read offset 4)
  | .rdMisaligned3 offset => some (.read offset 4)
  | .push re im => some (.transfer (pushKey re im))
  | .pop => some (.transfer popKey)
  | .autostep => none
  | .reset => some .reset

/-- Which key a row of the table is over (R90): a 40-bit write key, an 8-bit read key, a 65-bit transfer key, or none. -/
inductive KeySpace where
  | write
  | read
  | transfer
  | unkeyed
  deriving DecidableEq, Repr

/-- The `match` and `mask` of a row (R90): a key `k` of the row's space selects it iff `k &&& mask = pattern`. -/
structure Row where
  space : KeySpace
  pattern : Nat
  mask : Nat
  deriving DecidableEq, Repr

/-- The row of an operation, `match` and `mask` as spec/opcode_table.json gives them. -/
def Instr.row : Instr → Row
  | .nop => ⟨.write, 0x0000000000, 0xFFFFFFFFFF⟩
  | .init => ⟨.write, 0x0000000001, 0xFFFFFFFFFF⟩
  | .proc => ⟨.write, 0x0000000002, 0xFFFFFFFFFF⟩
  | .flush => ⟨.write, 0x0000000003, 0xFFFFFFFFFF⟩
  | .setthr => ⟨.write, 0x0000000004, 0xFFFFFFFFFF⟩
  | .stop => ⟨.write, 0x0000000005, 0xFFFFFFFFFF⟩
  | .cmdReserved6To7 _ => ⟨.write, 0x0000000006, 0xFFFFFFFFFE⟩
  | .cmdReservedBit3 _ => ⟨.write, 0x0000000008, 0xFFFFFFFFF8⟩
  | .cmdReservedBit4 _ => ⟨.write, 0x0000000010, 0xFFFFFFFFF0⟩
  | .cmdReservedBit5 _ => ⟨.write, 0x0000000020, 0xFFFFFFFFE0⟩
  | .cmdReservedBit6 _ => ⟨.write, 0x0000000040, 0xFFFFFFFFC0⟩
  | .cmdReservedBit7 _ => ⟨.write, 0x0000000080, 0xFFFFFFFF80⟩
  | .cmdReservedBit8 _ => ⟨.write, 0x0000000100, 0xFFFFFFFF00⟩
  | .cmdReservedBit9 _ => ⟨.write, 0x0000000200, 0xFFFFFFFE00⟩
  | .cmdReservedBit10 _ => ⟨.write, 0x0000000400, 0xFFFFFFFC00⟩
  | .cmdReservedBit11 _ => ⟨.write, 0x0000000800, 0xFFFFFFF800⟩
  | .cmdReservedBit12 _ => ⟨.write, 0x0000001000, 0xFFFFFFF000⟩
  | .cmdReservedBit13 _ => ⟨.write, 0x0000002000, 0xFFFFFFE000⟩
  | .cmdReservedBit14 _ => ⟨.write, 0x0000004000, 0xFFFFFFC000⟩
  | .cmdReservedBit15 _ => ⟨.write, 0x0000008000, 0xFFFFFF8000⟩
  | .cmdReservedBit16 _ => ⟨.write, 0x0000010000, 0xFFFFFF0000⟩
  | .cmdReservedBit17 _ => ⟨.write, 0x0000020000, 0xFFFFFE0000⟩
  | .cmdReservedBit18 _ => ⟨.write, 0x0000040000, 0xFFFFFC0000⟩
  | .cmdReservedBit19 _ => ⟨.write, 0x0000080000, 0xFFFFF80000⟩
  | .cmdReservedBit20 _ => ⟨.write, 0x0000100000, 0xFFFFF00000⟩
  | .cmdReservedBit21 _ => ⟨.write, 0x0000200000, 0xFFFFE00000⟩
  | .cmdReservedBit22 _ => ⟨.write, 0x0000400000, 0xFFFFC00000⟩
  | .cmdReservedBit23 _ => ⟨.write, 0x0000800000, 0xFFFF800000⟩
  | .cmdReservedBit24 _ => ⟨.write, 0x0001000000, 0xFFFF000000⟩
  | .cmdReservedBit25 _ => ⟨.write, 0x0002000000, 0xFFFE000000⟩
  | .cmdReservedBit26 _ => ⟨.write, 0x0004000000, 0xFFFC000000⟩
  | .cmdReservedBit27 _ => ⟨.write, 0x0008000000, 0xFFF8000000⟩
  | .cmdReservedBit28 _ => ⟨.write, 0x0010000000, 0xFFF0000000⟩
  | .cmdReservedBit29 _ => ⟨.write, 0x0020000000, 0xFFE0000000⟩
  | .cmdReservedBit30 _ => ⟨.write, 0x0040000000, 0xFFC0000000⟩
  | .cmdReservedBit31 _ => ⟨.write, 0x0080000000, 0xFF80000000⟩
  | .wrStatus _ => ⟨.write, 0x0400000000, 0xFF00000000⟩
  | .wrCtrl _ => ⟨.write, 0x0800000000, 0xFF00000000⟩
  | .wrCfgF _ => ⟨.write, 0x0C00000000, 0xFF00000000⟩
  | .wrCfgWnd _ => ⟨.write, 0x1000000000, 0xFF00000000⟩
  | .wrCfgLat _ => ⟨.write, 0x1400000000, 0xFF00000000⟩
  | .wrCfgThr _ => ⟨.write, 0x1800000000, 0xFF00000000⟩
  | .wrEffFIllegal _ => ⟨.write, 0x1C00000000, 0xFF00000000⟩
  | .wrEffOIllegal _ => ⟨.write, 0x2000000000, 0xFF00000000⟩
  | .wrEffWIllegal _ => ⟨.write, 0x2400000000, 0xFF00000000⟩
  | .wrEffLIllegal _ => ⟨.write, 0x2800000000, 0xFF00000000⟩
  | .wrRatioIllegal _ => ⟨.write, 0x2C00000000, 0xFF00000000⟩
  | .wrAvgIllegal _ => ⟨.write, 0x3000000000, 0xFF00000000⟩
  | .wrInLevelIllegal _ => ⟨.write, 0x3400000000, 0xFF00000000⟩
  | .wrOutLevelIllegal _ => ⟨.write, 0x3800000000, 0xFF00000000⟩
  | .wrReserved3C _ => ⟨.write, 0x3C00000000, 0xFF00000000⟩
  | .wrUnmapped40To7F _ _ => ⟨.write, 0x4000000000, 0xC000000000⟩
  | .wrUnmapped80ToFF _ _ => ⟨.write, 0x8000000000, 0x8000000000⟩
  | .wrMisaligned1 _ _ => ⟨.write, 0x0100000000, 0xC300000000⟩
  | .wrMisaligned2 _ _ => ⟨.write, 0x0200000000, 0xC300000000⟩
  | .wrMisaligned3 _ _ => ⟨.write, 0x0300000000, 0xC300000000⟩
  | .rdCmd => ⟨.read, 0x00, 0xFF⟩
  | .rdStatus => ⟨.read, 0x04, 0xFF⟩
  | .rdCtrl => ⟨.read, 0x08, 0xFF⟩
  | .rdCfgF => ⟨.read, 0x0C, 0xFF⟩
  | .rdCfgWnd => ⟨.read, 0x10, 0xFF⟩
  | .rdCfgLat => ⟨.read, 0x14, 0xFF⟩
  | .rdCfgThr => ⟨.read, 0x18, 0xFF⟩
  | .rdEffF => ⟨.read, 0x1C, 0xFF⟩
  | .rdEffO => ⟨.read, 0x20, 0xFF⟩
  | .rdEffW => ⟨.read, 0x24, 0xFF⟩
  | .rdEffL => ⟨.read, 0x28, 0xFF⟩
  | .rdRatio => ⟨.read, 0x2C, 0xFF⟩
  | .rdAvg => ⟨.read, 0x30, 0xFF⟩
  | .rdInLevel => ⟨.read, 0x34, 0xFF⟩
  | .rdOutLevel => ⟨.read, 0x38, 0xFF⟩
  | .rdReserved3C => ⟨.read, 0x3C, 0xFF⟩
  | .rdUnmapped40To7F _ => ⟨.read, 0x40, 0xC0⟩
  | .rdUnmapped80ToFF _ => ⟨.read, 0x80, 0x80⟩
  | .rdMisaligned1 _ => ⟨.read, 0x01, 0xC3⟩
  | .rdMisaligned2 _ => ⟨.read, 0x02, 0xC3⟩
  | .rdMisaligned3 _ => ⟨.read, 0x03, 0xC3⟩
  | .push _ _ => ⟨.transfer, 0x00000000000000000, 0x10000000000000000⟩
  | .pop => ⟨.transfer, 0x10000000000000000, 0x10000000000000000⟩
  | .autostep => ⟨.unkeyed, 0x0, 0x0⟩
  | .reset => ⟨.unkeyed, 0x0, 0x0⟩

/-- The key space of a request. -/
def Request.space : Request → KeySpace
  | .read _ _ => .read
  | .write _ _ _ => .write
  | .transfer _ => .transfer
  | .reset => .unkeyed

/-- The key of a request (R90): `offset[7:0]` of a read, `{offset[7:0], data[31:0]}` of a write, `{dir, re, im}` of a transfer. -/
def Request.key : Request → Nat
  | .read offset _ => offset.toNat
  | .write offset data _ => (offset ++ data).toNat
  | .transfer key => key.toNat
  | .reset => 0

/-- The request selects the row (R90). -/
def Request.selects (r : Request) (row : Row) : Bool :=
  decide (r.space = row.space) && decide (r.key &&& row.mask = row.pattern)

/-- The four-byte request whose key is the number `w`, a key of `nbits` bits in whole bytes: 8 bits are a read key, 40 a
write key, 72 (a 65-bit key in whole bytes) a transfer key. AUTOSTEP and RESET have no key (R90): no number stands for them. -/
def requestOfKey (nbits w : Nat) : Option Request :=
  if nbits = 0 then none
  else if nbits ≤ 8 then if w < 2 ^ 8 then some (.read (BitVec.ofNat 8 w) 4) else none
  else if nbits ≤ 40 then if w < 2 ^ 40 then some (.write (BitVec.ofNat 8 (w / 2 ^ 32)) (BitVec.ofNat 32 w) 4) else none
  else if nbits ≤ 72 then if w < 2 ^ 65 then some (.transfer (BitVec.ofNat 65 w)) else none
  else none

/-- The operation the decoder reads from a key of the opcode table. -/
def decodeTableWord (nbits w : Nat) : Option Instr :=
  match requestOfKey nbits w with
  | none => none
  | some r =>
    match decode r with
    | .ok i => some i
    | .error _ => none

end Sys2Proof
end

