-- ==== Sys2Proof/Config.lean ====
section
/-!
DEFINITION. What a part fixes and the rules leave open, the arguments of the machine (00_scope.md R6, R7;
92_eei_decisions.md D2, D3, D14): the record `Params`, over any scalar carrier. Then the opaque constants that the machine of
`Sys2Proof.core` takes for them, and the free values (93_implementation_defined.md U1, 20_memory.md R66): nothing in Lean can
evaluate an opaque constant.
-/

namespace Sys2Proof

/-- The numerics record `Num` (R7), over a carrier `S`. Three of its entries are written so that their ranges hold by
form: `decFinite` gives `dec32` on the finite patterns alone (`Machine.dec32` adds `none` for the others), and
`fwd v k`, `inv v k` are element `k` of `fwd_F(v)`, `inv_F(v)`, with `F` the length of `v`. -/
structure Numerics (S : Type) where
  zero : S
  one : S
  ofNat : Nat → S
  add : S → S → S
  sub : S → S → S
  mul : S → S → S
  div : S → S → S
  sqrt : S → S
  /-- strict greater-than -/
  gt : S → S → Bool
  sumF : List S → S
  maxF : List S → S
  /-- `d ↦ 10^(d/20)` -/
  db2ratio : S → S
  /-- the value of a finite float32 pattern -/
  decFinite : Word → S
  /-- the float32 pattern nearest a scalar -/
  enc32 : S → Word
  fwd : List (Cplx S) → Nat → Cplx S
  inv : List (Cplx S) → Nat → Cplx S
  deriving Inhabited

/-- The complex zero, `(zero, zero)`. -/
def Numerics.czero {S : Type} (N : Numerics S) : Cplx S := ⟨N.zero, N.zero⟩

/-- The zero laws: what every instance of `Num` must satisfy, and all that may be assumed of one (R8). -/
structure Numerics.ZeroLaws {S : Type} (N : Numerics S) : Prop where
  zero_add : ∀ x, N.add N.zero x = x
  add_zero : ∀ x, N.add x N.zero = x
  zero_mul : ∀ x, N.mul N.zero x = N.zero
  mul_zero : ∀ x, N.mul x N.zero = N.zero
  sub_zero : ∀ x, N.sub x N.zero = x
  zero_div : ∀ k, 1 ≤ k → N.div N.zero (N.ofNat k) = N.zero
  sumF_zero : ∀ l : List S, (∀ x ∈ l, x = N.zero) → N.sumF l = N.zero
  maxF_zero : ∀ l : List S, (∀ x ∈ l, x = N.zero) → N.maxF l = N.zero
  gt_zero : N.gt N.zero N.zero = false
  fwd_zero : ∀ (v : List (Cplx S)) (k : Nat), (∀ z ∈ v, z = N.czero) → N.fwd v k = N.czero
  inv_zero : ∀ (v : List (Cplx S)) (k : Nat), (∀ z ∈ v, z = N.czero) → N.inv v k = N.czero
  dec_zero : N.decFinite 0 = N.zero
  enc_zero : N.enc32 N.zero = 0
  ofNat_zero : N.ofNat 0 = N.zero
  ofNat_one : N.ofNat 1 = N.one

/-- A part: the arguments of the machine (R6), over the scalar carrier `S` of its numerics record (R7), and the values the
rules leave free. `PartOk` (Machine/Part.lean) says which records of this shape R6 and R8 admit. -/
structure Params (S : Type) where
  /-- `Num` -/
  num : Numerics S
  /-- `FMAX` -/
  fmax : Nat
  /-- `CAP_IN` -/
  capIn : Nat
  /-- `CAP_OUT` -/
  capOut : Nat
  /-- `F_SUPPORTED` -/
  supported : Nat → Bool
  /-- `BYTE_ORDER`, used outside the block only -/
  byteOrder : ByteOrder
  /-- FREE VALUE (U1, log entry 4): the value of a sample word that is no finite float32 pattern, by the step and the place
  in the block -/
  nonFinite : Nat → Nat → Word → S
  /-- FREE VALUE (R66, log entry 6): which agent the step after the one counted prefers -/
  nextAgent : Nat → Agent

namespace Config

/-- The arithmetic of the part, before the zero laws are imposed on it (`Machine.thePart` imposes them). R7, U3. -/
opaque numerics : Numerics Scalar

/-- `FMAX`, before R6's bound is imposed on it. -/
opaque fmax : Nat

/-- `CAP_IN`, before R6's bound is imposed on it. -/
opaque capIn : Nat

/-- `CAP_OUT`, before R6's bound is imposed on it. -/
opaque capOut : Nat

/-- Which lengths the part supports (`F_SUPPORTED`, R6, R126, U12), before R6's bounds are imposed. -/
opaque lengthAllowed : Nat → Bool

/-- `BYTE_ORDER` (R6, R64). -/
opaque byteOrder : ByteOrder

/-- FREE VALUE (U1, log entry 4): the value of a sample word that is no finite float32 pattern. It may differ at every
step (first argument, the step counter) and at every place in a block (second argument). -/
opaque nonFinite : Nat → Nat → Word → Scalar

/-- FREE VALUE (R66, log entry 6): which agent the step after the one counted prefers. -/
opaque nextAgent : Nat → Agent

end Config

end Sys2Proof
end

