-- ==== Sys2Proof/Machine/Numerics.lean ====
section
/-!
DEFINITION. Arithmetic through the numerics record (00_scope.md R7, R8): `dec32`, complex arithmetic, and a record held to the
zero laws.
-/

namespace Sys2Proof.Machine

section Generic

variable {S : Type}

/-- A float32 pattern that is neither a NaN nor an infinity: its exponent field is not 255 (R12). -/
def isFinite32 (w : Word) : Bool := (w.extractLsb' 23 8) != 255#8

/-- `dec32` (R7): the value of a float32 pattern, `none` for NaN and the two infinities. -/
def dec32 (N : Numerics S) (w : Word) : Option S := if isFinite32 w then some (N.decFinite w) else none

/-- Complex addition, componentwise (R7). -/
def cadd (N : Numerics S) (x y : Cplx S) : Cplx S := ⟨N.add x.re y.re, N.add x.im y.im⟩

/-- A complex value times a scalar, componentwise (R7). -/
def cscale (N : Numerics S) (x : Cplx S) (a : S) : Cplx S := ⟨N.mul x.re a, N.mul x.im a⟩

/-- Element `i` of a vector. The rules index every vector within its length (R25); beyond it this reads zero. -/
def elem (N : Numerics S) (v : List (Cplx S)) (i : Nat) : Cplx S := v.getD i N.czero

/-- The record with the zero laws of R8 imposed where its own entries break them. A record that keeps the laws is not
changed by it on the operands the rules use (log entry 3). -/
def lawful [DecidableEq S] (N : Numerics S) : Numerics S where
  zero := N.zero
  one := N.one
  ofNat n := if n = 0 then N.zero else if n = 1 then N.one else N.ofNat n
  add x y := if x = N.zero then y else if y = N.zero then x else N.add x y
  sub x y := if y = N.zero then x else N.sub x y
  mul x y := if x = N.zero ∨ y = N.zero then N.zero else N.mul x y
  div x y := if x = N.zero then N.zero else N.div x y
  sqrt := N.sqrt
  gt x y := if x = N.zero ∧ y = N.zero then false else N.gt x y
  sumF l := if l.all (fun x => decide (x = N.zero)) then N.zero else N.sumF l
  maxF l := if l.all (fun x => decide (x = N.zero)) then N.zero else N.maxF l
  db2ratio := N.db2ratio
  decFinite w := if w = 0 then N.zero else N.decFinite w
  enc32 x := if x = N.zero then 0 else N.enc32 x
  fwd v k := if v.all (fun z => decide (z = N.czero)) then N.czero else N.fwd v k
  inv v k := if v.all (fun z => decide (z = N.czero)) then N.czero else N.inv v k

end Generic

end Sys2Proof.Machine
end

