-- ==== Sys2Proof/Machine/Part.lean ====
section
/-!
DEFINITION. Which parts the rules admit (00_scope.md R6, R8), and the part of the machine of `Sys2Proof.core`.
-/

namespace Sys2Proof.Machine

/-- `O = max(1, F div 64)` (R22, R122). -/
def overlap (F : Nat) : Nat := max 1 (F / 64)

/-- The bounds R6 puts on a supported length, for given sizes of the part. -/
def lengthFits (fmax capIn capOut F : Nat) : Bool :=
  decide (32 ≤ F ∧ F ≤ fmax ∧ F - overlap F ≤ min capIn capOut)

/-- What R6 and R8 ask of a part, and all that may be assumed of one. `F_SUPPORTED` is bounded from above only: a part may
support any set of the lengths that fit, and so refuse any of them. -/
structure PartOk {S : Type} (P : Params S) : Prop where
  laws : P.num.ZeroLaws
  fmax_ge : 32 ≤ P.fmax
  capIn_ge : 31 ≤ P.capIn
  capOut_ge : 31 ≤ P.capOut
  supported_fits : ∀ F, P.supported F = true → lengthFits P.fmax P.capIn P.capOut F = true

/-- A part with R6's bounds and R8's laws imposed where its own entries break them (log entry 3). -/
def lawfulPart {S : Type} [DecidableEq S] (P : Params S) : Params S where
  num := lawful P.num
  fmax := max 32 P.fmax
  capIn := max 31 P.capIn
  capOut := max 31 P.capOut
  supported F := lengthFits (max 32 P.fmax) (max 31 P.capIn) (max 31 P.capOut) F && P.supported F
  byteOrder := P.byteOrder
  nonFinite := P.nonFinite
  nextAgent := P.nextAgent

/-- The part of the machine of `Sys2Proof.core`: open but for R6 and R8, with the scalars of plain data (log entries 1, 2, 3).
Its `zero` is the scalar numbered 0. -/
def thePart : Params Scalar :=
  lawfulPart
    { num := { Config.numerics with zero := Scalar.zero }
      fmax := Config.fmax
      capIn := Config.capIn
      capOut := Config.capOut
      supported := Config.lengthAllowed
      byteOrder := Config.byteOrder
      nonFinite := Config.nonFinite
      nextAgent := Config.nextAgent }

end Sys2Proof.Machine
end

