-- ==== Sys2Proof/Machine/State.lean ====
section
/-!
DEFINITION. The state of the block (10_state.md R20), as plain data, with the model's own fields for the outside world
beside it, and its values after reset (R40, R270). The state is one over any scalar carrier `S` (00_scope.md R7); `State`
without a carrier is the one over the carrier `Scalar`, the state of `Sys2Proof.core`.
-/

namespace Sys2Proof.Machine

/-- The sequencer state `st`, in place of a program counter (R24). -/
inductive Sequencer where
  /-- no stage exists: after reset, after STOP, after a failed INIT -/
  | unconf
  /-- a stage exists and is between blocks -/
  | idle
  deriving DecidableEq, Repr

/-- The three error events (R240). -/
inductive Event where
  /-- `ERR_CFG`, STATUS bit 8 (R241) -/
  | cfg
  /-- `ERR_SEQ`, STATUS bit 9 (R242) -/
  | seq
  /-- `ERR_BUS`, STATUS bit 10 (R243) -/
  | bus
  deriving DecidableEq, Repr

/-- What the latest register read or POP returned to the host (R60, R214). -/
inductive Reply where
  /-- nothing has been read or popped yet -/
  | none
  /-- the word a register read returned -/
  | word (w : Word)
  /-- the sample a POP returned -/
  | sample (x : Sample)
  deriving DecidableEq, Repr

/-- Why a step could stop the machine with a fault. It has no constructor: the rules stop the block nowhere. An error
event sets a flag and the block goes on (R248), a block step never fails (R246), a transfer that is not enabled waits
(R212, R214). Nothing raises it, which is neither safe nor unsafe. -/
inductive Fault where
  deriving DecidableEq, Repr

/-- Why a step could have no meaning. -/
inductive Refusal where
  /-- An instruction that has no meaning yet. Raised by no arm of `exec`: every instruction has its meaning. Safe. -/
  | notModelled (mnemonic : String)
  deriving DecidableEq, Repr

/-- The state. Field names are the rules' own where they have one. -/
structure State (S : Type := Scalar) where
  /-- sequencer state (R24) -/
  st : Sequencer
  /-- staging register `CTRL`: bit 0 `AUTO`, bit 1 `MODE`; its other bits read 0 and are not kept (R32) -/
  ctrl : BitVec 2
  /-- staging register `CFG_F` (R21) -/
  cfgF : Word
  /-- staging register `CFG_WND` (R21) -/
  cfgWnd : Word
  /-- staging register `CFG_LAT` (R21) -/
  cfgLat : Word
  /-- staging register `CFG_THR`, a float32 pattern in dB (R21) -/
  cfgThr : Word
  /-- transform length (R22) -/
  F : Nat
  /-- overlap size (R22) -/
  O : Nat
  /-- half window size (R22) -/
  W : Nat
  /-- latency (R22) -/
  L : Nat
  /-- sample kind of both ports (R22) -/
  mode : Mode
  /-- false: inline execution; true: background execution (R22) -/
  auto : Bool
  /-- the factor applied to the average power (R23) -/
  ratio : S
  /-- the running average power (R23) -/
  avg : S
  /-- sticky flag `ERR_CFG` (R26) -/
  errCfg : Bool
  /-- sticky flag `ERR_SEQ` (R26) -/
  errSeq : Bool
  /-- sticky flag `ERR_BUS` (R26) -/
  errBus : Bool
  /-- the transform input, which keeps its content between blocks (R33) -/
  fin : List (Cplx S)
  /-- the tail of the previous block's reconstruction (R33) -/
  carry : List (Cplx S)
  /-- the input FIFO, head first (R35) -/
  inq : List Sample
  /-- the output FIFO, head first (R35) -/
  outq : List Sample
  /-- MODEL'S OWN (log entry 5): what the host has asked for and has not happened yet, oldest first -/
  host : List Request
  /-- MODEL'S OWN (log entry 6): the agent the next step prefers -/
  turn : Agent
  /-- MODEL'S OWN (log entry 7): how many steps there have been, the argument of the free values -/
  tick : Nat
  /-- MODEL'S OWN (log entry 5): what the host was answered last -/
  reply : Reply
  deriving DecidableEq, Repr

/-- The state after reset (R40), for a carrier whose zero is given; nothing asked for yet. -/
def State.cleared {S : Type} (zero : S) : State S where
  st := .unconf
  ctrl := 0
  cfgF := 0
  cfgWnd := 0
  cfgLat := 0
  cfgThr := 0
  F := 0
  O := 0
  W := 0
  L := 0
  mode := .real
  auto := false
  ratio := zero
  avg := zero
  errCfg := false
  errSeq := false
  errBus := false
  fin := []
  carry := []
  inq := []
  outq := []
  host := []
  turn := .host
  tick := 0
  reply := .none

/-- The machine right after reset: every field of the block at the value of R40. -/
def State.reset : State := State.cleared Scalar.zero

end Sys2Proof.Machine
end

