-- ==== Sys2Proof/Machine/Operands.lean ====
section
/-!
DEFINITION. The operand forms: the derivation of the effective parameters from the staging registers
(40_config_commands.md R122), the threshold operand (30_encoding.md R103), the value of a sample (R104), and the word a
register reads as (10_state.md R30).
-/

namespace Sys2Proof.Machine

/-- `clamp(v, lo, hi) = min(max(v, lo), hi)` (R10). -/
def clamp (v lo hi : Nat) : Nat := min (max v lo) hi

/-- `F'` (R122). -/
def deriveF (f : Word) : Nat := max 32 f.toNat

/-- `O'` (R122). -/
def deriveO (f : Word) : Nat := overlap (deriveF f)

/-- `W'` (R122): both clamps act on the configured value, then the halving. -/
def deriveW (f wnd : Word) : Nat := clamp (clamp wnd.toNat 1 (deriveF f / 2)) 2 254 / 2

/-- `L'` (R122). -/
def deriveL (lat : Word) : Nat := max 1 lat.toNat

/-- `CTRL.AUTO` (R32). -/
def ctrlAuto (c : BitVec 2) : Bool := c.getLsbD 0

/-- `CTRL.MODE` (R32). -/
def ctrlMode (c : BitVec 2) : Mode := if c.getLsbD 1 then .complex else .real

/-- `ratio = db2ratio(dec32(CFG_THR))`, `none` for a pattern that is no legal threshold (R103). -/
def thresholdRatio {S : Type} (P : Params S) (thr : Word) : Option S := (dec32 P.num thr).map P.num.db2ratio

/-- The scalar of one sample word: `dec32`, and `bad` where the word is no finite pattern (U1, log entry 4). -/
def wordValue {S : Type} (N : Numerics S) (bad : Word → S) (w : Word) : S := (dec32 N w).getD (bad w)

/-- `cplx(s)` (R11, R104, R152): a REAL sample's `im` is ignored. `bad` at 0 stands for the value of a non-finite `re`,
at 1 of a non-finite `im`. -/
def cplx {S : Type} (N : Numerics S) (bad : Nat → Word → S) (mode : Mode) (x : Sample) : Cplx S :=
  match mode with
  | .real => ⟨wordValue N (bad 0) x.re, N.zero⟩
  | .complex => ⟨wordValue N (bad 0) x.re, wordValue N (bad 1) x.im⟩

/-- A natural number as a register shows it (R10 `zext_32`, R30); log entry 9 for one of 2^32 or more. -/
def natWord (n : Nat) : Word := BitVec.ofNat 32 n

end Sys2Proof.Machine
end

