-- ==== Sys2Proof/Machine/Flags.lean ====
section
/-!
DEFINITION. The bits of STATUS (10_state.md R26, R31): the six live bits, computed from other state, the three sticky
flags, and the readiness predicate `canProcess` (43_stream_ports.md R216).
-/

namespace Sys2Proof.Machine

variable {S : Type}

/-- `CONF`: a stage exists (R24, R31). -/
def State.conf (s : State S) : Bool := s.st == .idle

/-- How many samples a full block takes and emits, `F - O` (R15, R150). -/
def State.block (s : State S) : Nat := s.F - s.O

/-- `canProcess` (R216): a stage exists, a full block is buffered, and the output FIFO has room for one. -/
def State.canProcess (P : Params S) (s : State S) : Bool :=
  s.conf && decide (s.block ≤ s.inq.length) && decide (s.block ≤ P.capOut - s.outq.length)

/-- `IN_READY`, which is also when a PUSH is enabled (R31, R212). -/
def State.inReady (P : Params S) (s : State S) : Bool := s.conf && decide (s.inq.length < P.capIn)

/-- `OUT_VALID`, which is also when a POP is enabled (R31, R214). -/
def State.outValid (s : State S) : Bool := decide (0 < s.outq.length)

/-- An AUTOSTEP is enabled (R220). -/
def State.autoEnabled (P : Params S) (s : State S) : Bool := s.auto && s.canProcess P

/-- How many samples a FLUSH takes (R162). -/
def State.flushCount (s : State S) : Nat := min s.inq.length s.block

/-- Bit `n` of a word, set iff `b`. -/
def bitAt (n : Nat) (b : Bool) : Word := if b then BitVec.twoPow 32 n else 0

/-- The word STATUS reads as (R31). -/
def State.statusWord (P : Params S) (s : State S) : Word :=
  bitAt 0 s.conf ||| bitAt 1 s.auto ||| bitAt 2 (s.mode == .complex) ||| bitAt 3 (s.canProcess P) |||
    bitAt 4 (s.inReady P) ||| bitAt 5 s.outValid ||| bitAt 8 s.errCfg ||| bitAt 9 s.errSeq ||| bitAt 10 s.errBus

/-- The nine level outputs, in the order of their STATUS bits (R250). -/
def State.levelOutputs (P : Params S) (s : State S) : List Bool :=
  [s.conf, s.auto, s.mode == .complex, s.canProcess P, s.inReady P, s.outValid, s.errCfg, s.errSeq, s.errBus]

/-- The STATUS bit of an error event, which is also its code (R240). -/
def eventBit : Event → Nat
  | .cfg => 8
  | .seq => 9
  | .bus => 10

/-- The flag of an error event (R26). -/
def State.flag (s : State S) : Event → Bool
  | .cfg => s.errCfg
  | .seq => s.errSeq
  | .bus => s.errBus

end Sys2Proof.Machine
end

