-- ==== Sys2Proof/Machine/Ops.lean ====
section
/-!
DEFINITION. The named operations on the state: raising an error event and acknowledging one (60_exceptions.md R240 to
R249), reading and writing registers (20_memory.md R60, R61), the two FIFOs (10_state.md R35), and the changes of a
stage's life (40_config_commands.md R138). The block has no memory (R37).
-/

namespace Sys2Proof.Machine

variable {S : Type}

/-- `raise E` (R11, R240): set the event's sticky bit. This is all that taking an error event does (R248): no state is
saved, no mode changes and the engine goes nowhere; the access that raised it has no other effect. -/
def State.raise (s : State S) : Event → State S
  | .cfg => { s with errCfg := true }
  | .seq => { s with errSeq := true }
  | .bus => { s with errBus := true }

/-- The host acknowledges events by writing `v` to STATUS (R31, R249): each flag whose bit of `v` is 1 clears. There is
no return from an event beside it. -/
def State.acknowledge (s : State S) (v : Word) : State S :=
  { s with
    errCfg := s.errCfg && !v.getLsbD (eventBit .cfg)
    errSeq := s.errSeq && !v.getLsbD (eventBit .seq)
    errBus := s.errBus && !v.getLsbD (eventBit .bus) }

/-- The host is answered. -/
def State.answer (s : State S) (r : Reply) : State S := { s with reply := r }

/-- `reg[NAME]` (R11, R30): the word a register reads as; `CMD` is write-only and reads 0. -/
def State.reg (P : Params S) (s : State S) : Reg → Word
  | .cmd => 0
  | .status => s.statusWord P
  | .ctrl => s.ctrl.setWidth 32
  | .cfgF => s.cfgF
  | .cfgWnd => s.cfgWnd
  | .cfgLat => s.cfgLat
  | .cfgThr => s.cfgThr
  | .effF => natWord s.F
  | .effO => natWord s.O
  | .effW => natWord s.W
  | .effL => natWord s.L
  | .ratio => P.num.enc32 s.ratio
  | .avg => P.num.enc32 s.avg
  | .inLevel => natWord s.inq.length
  | .outLevel => natWord s.outq.length

/-- A legal register read (R60): the host is answered with the register's word and nothing else changes (R65). -/
def State.readReg (P : Params S) (s : State S) (r : Reg) : State S := s.answer (.word (s.reg P r))

/-- A register read that raises ERR_BUS returns 0 (R61, R243). -/
def State.refuseRead (s : State S) : State S := (s.raise .bus).answer (.word 0)

/-- A register write that raises ERR_BUS changes nothing and runs no command (R61, R243). -/
def State.refuseWrite (s : State S) : State S := s.raise .bus

/-- A command that raises ERR_SEQ does nothing (R242). -/
def State.refuseCommand (s : State S) : State S := s.raise .seq

/-- An access whose size is not 4 bytes (R61, R243 case 1): the first test of R247, before the access is an operation. -/
def State.refuseRequest (s : State S) : Request → State S
  | .read _ _ => s.refuseRead
  | .write _ _ _ => s.refuseWrite
  | .transfer _ => s
  | .reset => s

/-- `reg[CTRL] <- v`: bits 31:2 are ignored (R32). -/
def State.setCtrl (s : State S) (v : Word) : State S := { s with ctrl := v.setWidth 2 }

/-- `reg[CFG_F] <- v` (R21). -/
def State.setCfgF (s : State S) (v : Word) : State S := { s with cfgF := v }

/-- `reg[CFG_WND] <- v` (R21). -/
def State.setCfgWnd (s : State S) (v : Word) : State S := { s with cfgWnd := v }

/-- `reg[CFG_LAT] <- v` (R21). -/
def State.setCfgLat (s : State S) (v : Word) : State S := { s with cfgLat := v }

/-- `reg[CFG_THR] <- v` (R21). -/
def State.setCfgThr (s : State S) (v : Word) : State S := { s with cfgThr := v }

/-- `ratio <- r` (R130). -/
def State.setRatio (s : State S) (r : S) : State S := { s with ratio := r }

/-- The effect of an INIT that succeeds, with the ratio its threshold gives (R121 to R124). -/
def State.startStage (P : Params S) (s : State S) (ratio : S) : State S :=
  { s with
    st := .idle
    F := deriveF s.cfgF
    O := deriveO s.cfgF
    W := deriveW s.cfgF s.cfgWnd
    L := deriveL s.cfgLat
    mode := ctrlMode s.ctrl
    auto := ctrlAuto s.ctrl
    ratio := ratio
    avg := P.num.zero
    fin := List.replicate (deriveF s.cfgF) P.num.czero
    carry := List.replicate (deriveO s.cfgF) P.num.czero }

/-- The effect of STOP (R134). -/
def State.stopStage (s : State S) : State S := { s with inq := [], st := .unconf }

/-- `push(inq, [x])` (R212). -/
def State.pushIn (s : State S) (x : Sample) : State S := { s with inq := s.inq ++ [x] }

/-- `pop(outq, 1)` with the popped sample as the answer (R214). An empty `outq` is left as it is: the transfer waits. -/
def State.popOut (s : State S) : State S :=
  match s.outq with
  | [] => s
  | x :: rest => { s with outq := rest, reply := .sample x }

/-- The effect of the reset input (R270): the block's state as after reset. What the host still asks for, what it was
answered and the model's bookkeeping of steps are no state of the block. -/
def State.resetBlock (P : Params S) (s : State S) : State S :=
  { State.cleared P.num.zero with host := s.host, turn := s.turn, tick := s.tick, reply := s.reply }

/-- One step is taken and `rest` is what the host still asks for: the next step's preference is drawn (log entry 6). -/
def State.grant (P : Params S) (s : State S) (rest : List Request) : State S :=
  { s with host := rest, turn := P.nextAgent s.tick, tick := s.tick + 1 }

end Sys2Proof.Machine
end

