-- ==== Sys2Proof/Machine/Ports.lean ====
section
/-!
DEFINITION. The sample ports (43_stream_ports.md R212, R214) and the reset input (70_reset_and_hazards.md R270).
-/

namespace Sys2Proof.Machine

variable {S : Type}

/-- `PUSH`: the sample is appended to `inq` when the transfer is enabled; else it waits and nothing changes (R212). -/
def State.push (P : Params S) (s : State S) (x : Sample) : State S := if s.inReady P then s.pushIn x else s

/-- `PUSH` (R212). -/
def execPush (re im : Word) (s : State) : Host.Outcome State Fault Refusal := .next (s.push thePart ⟨re, im⟩)

/-- `POP`: the oldest sample of `outq` is removed and returned; on an empty `outq` the transfer waits (R214). -/
def execPop (s : State S) : Host.Outcome (State S) Fault Refusal := .next s.popOut

/-- `RESET`: every piece of the block's state takes its value after reset, in any state (R270). -/
def execReset (s : State) : Host.Outcome State Fault Refusal := .next (s.resetBlock thePart)

/-- The operation waits: it is a transfer that is not enabled (R212, R214). Every other operation happens at once. -/
def State.holds (P : Params S) (s : State S) : Instr → Bool
  | .push _ _ => !s.inReady P
  | .pop => !s.outValid
  | _ => false

end Sys2Proof.Machine
end

