-- ==== Sys2Proof/Machine/Agents.lean ====
section
/-!
DEFINITION. Who moves next (00_scope.md R3; 20_memory.md R66, R67; 43_stream_ports.md R220, R224, R226), and one step of a
machine. The host's steps happen in the order it issued them (R67). The rules leave the interleaving of the two agents open; the
state's `turn`, drawn anew at every step, settles it (log entries 5 and 6).
-/

namespace Sys2Proof.Machine

/-- The step that comes next. -/
inductive Move where
  /-- the engine's AUTOSTEP -/
  | engine
  /-- a request of the host, with what the host then still asks for -/
  | host (r : Request) (rest : List Request)
  /-- no step of either agent is enabled -/
  | wait
  deriving DecidableEq, Repr

variable {S : Type}

/-- The request is a transfer that is not enabled now (R212, R214). -/
def State.holdsRequest (P : Params S) (s : State S) (r : Request) : Bool :=
  match decode r with
  | .ok i => s.holds P i
  | .error _ => false

/-- Where the host has no step, because it has asked for nothing or its oldest request is a transfer that is not enabled
(DESIGN CHOICE, log entry 5). -/
def State.hostWaits (P : Params S) (s : State S) : Prop := ∀ r rest, s.host = r :: rest → s.holdsRequest P r = true

/-- The step that comes next. The host's steps happen in the order it issued them (R67): its oldest request is its next
step. While that is a transfer that is not enabled the host has no step (DESIGN CHOICE, log entry 5). Of two enabled
steps it is the one of the agent whose turn it is. -/
def State.nextMove (P : Params S) (s : State S) : Move :=
  match s.host with
  | [] => if s.autoEnabled P then .engine else .wait
  | r :: rest =>
    if s.holdsRequest P r then if s.autoEnabled P then .engine else .wait
    else if s.autoEnabled P && s.turn == .engine then .engine
    else .host r rest

/-- The host issues a request that is its very next step. -/
def State.issueNow (s : State S) (r : Request) : State S := { s with host := r :: s.host, turn := .host }

/-- One step of a machine whose operations do what `run` says. An access that is no operation (its size is not 4 bytes)
raises ERR_BUS before it is decoded (R247). -/
def stepWith (P : Params S) (run : Instr → State S → Host.Outcome (State S) Fault Refusal) (s : State S) :
    Host.Outcome (State S) Fault Refusal :=
  match s.nextMove P with
  | .engine => run .autostep (s.grant P s.host)
  | .host r rest =>
    match decode r with
    | .ok i => run i (s.grant P rest)
    | .error _ => .next ((s.grant P rest).refuseRequest r)
  | .wait => .next (s.grant P s.host)

end Sys2Proof.Machine
end

