-- ==== Sys2Proof/Machine/Gate.lean ====
section
/-!
DEFINITION. The adaptive comparator and the gain mask, steps 2 to 6 of a block (42_gate_comparator.md), over any
numerics record.
-/

namespace Sys2Proof.Machine

section Generic

variable {S : Type}

/-- Step 2: squared magnitude of one bin (R181). -/
def level (N : Numerics S) (z : Cplx S) : S := N.add (N.mul z.re z.re) (N.mul z.im z.im)

/-- Step 2: the levels of all bins (R181). -/
def levels (N : Numerics S) (bins : List (Cplx S)) : List S := bins.map (level N)

/-- Step 2: total power without the largest bin (R182). -/
def power (N : Numerics S) (lv : List S) : S := N.sub (N.sumF lv) (N.maxF lv)

/-- Step 3, comparator A: fast attack with time constant 2, slow decay with time constant `L` (R180, R184). -/
def smooth (N : Numerics S) (L : Nat) (avg pow : S) : S :=
  if N.gt pow avg then N.add avg (N.div (N.sub pow avg) (N.ofNat 2))
  else N.add avg (N.div (N.sub pow avg) (N.ofNat L))

/-- The average after a block whose bins are given (R180, R185). -/
def newAverage (N : Numerics S) (L : Nat) (avg : S) (bins : List (Cplx S)) : S :=
  smooth N L avg (power N (levels N bins))

/-- Step 4: the threshold (R186). -/
def threshold (N : Numerics S) (avg ratio : S) : S := N.mul avg ratio

/-- Step 4, comparator B: a bin is open iff its level is strictly above the threshold (R186). -/
def gates (N : Numerics S) (thr : S) (lv : List S) : List Bool := lv.map fun l => N.gt l thr

/-- Step 5: how many of the bins `(i - W) mod F .. (i + W - 1) mod F` are open (R188). -/
def windowCount (F W : Nat) (g : List Bool) (i : Nat) : Nat :=
  (List.range (2 * W)).countP fun e => g.getD ((i + F - W + e) % F) false

/-- Step 5: the counts of all bins (R188). -/
def counts (F W : Nat) (g : List Bool) : List Nat := (List.range F).map (windowCount F W g)

/-- A mark as a number, 1 for open (R186). -/
def mark (g : List Bool) (i : Nat) : Nat := if g.getD i false then 1 else 0

/-- Step 5 as the source computes it (R189): the sum for bin 0, and from bin to bin the entering mark added and the
leaving one subtracted. -/
def slidingCount (F W : Nat) (g : List Bool) : Nat → Nat
  | 0 => windowCount F W g 0
  | i + 1 => slidingCount F W g i + mark g ((i + W) % F) - mark g ((i + F - W) % F)

/-- Step 6: the gain of a bin whose count is not zero (R190). -/
def gain (N : Numerics S) (W c : Nat) : S := N.sqrt (N.div (N.ofNat c) (N.ofNat (2 * W)))

/-- Step 6: a bin scaled by the gain of its count, or zeroed outright (R190). -/
def scaleBin (N : Numerics S) (W c : Nat) (z : Cplx S) : Cplx S :=
  if c = 0 then N.czero else cscale N z (gain N W c)

/-- The marks of a block's bins, against an average that already contains the block's own power (R185, R186). -/
def openMarks (N : Numerics S) (L : Nat) (ratio avg : S) (bins : List (Cplx S)) : List Bool :=
  gates N (threshold N (newAverage N L avg bins) ratio) (levels N bins)

/-- The scaled bins `Gate` returns (R180). -/
def gateBins (N : Numerics S) (F W L : Nat) (ratio avg : S) (bins : List (Cplx S)) : List (Cplx S) :=
  List.zipWith (scaleBin N W) (counts F W (openMarks N L ratio avg bins)) bins

end Generic

end Sys2Proof.Machine
end

