-- ==== Sys2Proof/Machine/Transform.lean ====
section
/-!
DEFINITION. The block step (41_block_transform.md): load and forward transform, the gate, inverse transform, crossfade
and emission, over any numerics record; and the block step on the state.
-/

namespace Sys2Proof.Machine

section Generic

variable {S : Type}

/-- Step 1, load (R152): the values of the samples taken go to `fin[0 .. n-1]`, the rest of `fin` is not written. -/
def loadInput (fin ys : List (Cplx S)) : List (Cplx S) := ys ++ fin.drop ys.length

/-- The values of the samples taken; the value of a word that is no finite pattern may depend on its place (log entry 4). -/
def inputValues (N : Numerics S) (bad : Nat → Word → S) (mode : Mode) (xs : List Sample) : List (Cplx S) :=
  xs.mapIdx fun j x => cplx N (fun c => bad (2 * j + c)) mode x

/-- Step 1, forward transform (R153): `F` bins. -/
def forward (N : Numerics S) (fin : List (Cplx S)) : List (Cplx S) := (List.range fin.length).map (N.fwd fin)

/-- Step 7 (R156): inverse transform, divided by `F`. -/
def reconstruct (N : Numerics S) (F : Nat) (bins : List (Cplx S)) : List (Cplx S) :=
  (List.range bins.length).map fun m =>
    ⟨N.div (N.inv bins m).re (N.ofNat F), N.div (N.inv bins m).im (N.ofNat F)⟩

/-- The weight `i / O` of a new sample in the crossfade, a scalar quotient (R157). -/
def weight (N : Numerics S) (O i : Nat) : S := N.div (N.ofNat i) (N.ofNat O)

/-- Step 8 (R157): the first `O` reconstructed samples crossfaded with the carry. -/
def crossfade (N : Numerics S) (O : Nat) (rec carry : List (Cplx S)) : List (Cplx S) :=
  (List.range O).map fun i =>
    cadd N (cscale N (elem N rec i) (weight N O i)) (cscale N (elem N carry i) (N.sub (N.ofNat 1) (weight N O i)))

/-- Step 8 (R157): the last `O` reconstructed samples, the new carry. -/
def newCarry (N : Numerics S) (F O : Nat) (rec : List (Cplx S)) : List (Cplx S) :=
  (List.range O).map fun j => elem N rec (F - O + j)

/-- Step 9 (R158): the first `n` samples, crossfaded below `O` and as reconstructed from there. -/
def emit (N : Numerics S) (O n : Nat) (head rec : List (Cplx S)) : List (Cplx S) :=
  (List.range n).map fun i => if i < O then elem N head i else elem N rec i

/-- Step 9 (R158): the words of an output value; a REAL sample's imaginary part is dropped. -/
def outWords (N : Numerics S) (mode : Mode) (z : Cplx S) : Sample :=
  match mode with
  | .real => ⟨N.enc32 z.re, 0⟩
  | .complex => ⟨N.enc32 z.re, N.enc32 z.im⟩

/-- The reconstruction of a block from its loaded transform input: steps 1 to 7 (R151). -/
def blockRec (N : Numerics S) (F W L : Nat) (ratio avg : S) (fin : List (Cplx S)) : List (Cplx S) :=
  reconstruct N F (gateBins N F W L ratio avg (forward N fin))

/-- The output of a block of `n` samples, as words: steps 8 and 9 (R151, R158). -/
def blockOut (N : Numerics S) (O n : Nat) (mode : Mode) (rec carry : List (Cplx S)) : List Sample :=
  (emit N O n (crossfade N O rec carry) rec).map (outWords N mode)

end Generic

variable {S : Type}

/-- The transform input once the `n` oldest samples of `inq` are loaded (R152). -/
def State.loaded (P : Params S) (s : State S) (n : Nat) : List (Cplx S) :=
  loadInput s.fin (inputValues P.num (P.nonFinite s.tick) s.mode (s.inq.take n))

/-- The reconstruction a block step on `n` samples makes (R151). -/
def State.blockRec (P : Params S) (s : State S) (n : Nat) : List (Cplx S) :=
  Machine.blockRec P.num s.F s.W s.L s.ratio s.avg (s.loaded P n)

/-- `Block(n)` (R151), one atomic transition (R66). Its callers check `len(inq) >= n` and the room for `n` samples. -/
def State.runBlock (P : Params S) (s : State S) (n : Nat) : State S :=
  { s with
    inq := s.inq.drop n
    fin := s.loaded P n
    avg := newAverage P.num s.L s.avg (forward P.num (s.loaded P n))
    carry := newCarry P.num s.F s.O (s.blockRec P n)
    outq := s.outq ++ blockOut P.num s.O n s.mode (s.blockRec P n) s.carry }

end Sys2Proof.Machine
end

