-- ==== Sys2Proof/Machine/Commands.lean ====
section
/-!
DEFINITION. The commands (30_encoding.md R96, R98): NOP, INIT, SETTHR, STOP (40_config_commands.md), PROC and FLUSH
(41_block_transform.md), and the engine's own step AUTOSTEP (43_stream_ports.md R220). Each always has a next state: a command
that is not legal raises its event and the block goes on (60_exceptions.md R248).
-/

namespace Sys2Proof.Machine

variable {S : Type}

/-- `NOP`: no effect, raises nothing, legal in every state (R120). -/
def execNop (s : State S) : Host.Outcome (State S) Fault Refusal := .next s

/-- `INIT` (R121): the tests in the order of R247, then a stage is made from the staging registers. -/
def State.initCommand (P : Params S) (s : State S) : State S :=
  if s.conf then s.refuseCommand
  else if P.supported (deriveF s.cfgF) then
    match thresholdRatio P s.cfgThr with
    | none => s.raise .cfg
    | some r => s.startStage P r
  else s.raise .cfg

/-- `INIT` (R121 to R126, R241, R242). -/
def execInit (s : State) : Host.Outcome State Fault Refusal := .next (s.initCommand thePart)

/-- `PROC` runs one full block (R150), or raises ERR_SEQ where there is no stage or `canProcess` is false (R98, R242). -/
def State.procCommand (P : Params S) (s : State S) : State S :=
  if s.canProcess P then s.runBlock P s.block else s.refuseCommand

/-- `PROC` (R150, R242). -/
def execProc (s : State) : Host.Outcome State Fault Refusal := .next (s.procCommand thePart)

/-- `FLUSH` (R162): a block on what input is left, nothing without input, ERR_SEQ without a stage or without room. -/
def State.flushCommand (P : Params S) (s : State S) : State S :=
  if s.conf then
    if s.flushCount = 0 then s
    else if s.flushCount ≤ P.capOut - s.outq.length then s.runBlock P s.flushCount
    else s.refuseCommand
  else s.refuseCommand

/-- `FLUSH` (R162, R242). -/
def execFlush (s : State) : Host.Outcome State Fault Refusal := .next (s.flushCommand thePart)

/-- `SETTHR` (R130): the new ratio; a pattern that is no legal threshold is dropped without a flag. -/
def State.setthrCommand (P : Params S) (s : State S) : State S :=
  if s.conf then
    match thresholdRatio P s.cfgThr with
    | none => s
    | some r => s.setRatio r
  else s.refuseCommand

/-- `SETTHR` (R130, R242). -/
def execSetthr (s : State) : Host.Outcome State Fault Refusal := .next (s.setthrCommand thePart)

/-- `STOP` (R134): the stage and its unprocessed input are gone, emitted output stays; ERR_SEQ without a stage. -/
def execStop (s : State S) : Host.Outcome (State S) Fault Refusal :=
  .next (if s.conf then s.stopStage else s.refuseCommand)

/-- `AUTOSTEP` (R220): exactly as a legal PROC when enabled; it is never attempted when not, so then nothing happens. -/
def State.autostep (P : Params S) (s : State S) : State S :=
  if s.autoEnabled P then s.runBlock P s.block else s

/-- `AUTOSTEP` (R220). -/
def execAutostep (s : State) : Host.Outcome State Fault Refusal := .next (s.autostep thePart)

end Sys2Proof.Machine
end

