-- ==== Sys2Proof/Machine/Reads.lean ====
section
/-!
DEFINITION. Register reads (20_memory.md R60, R61, R65; 10_state.md R30 to R32): the host is answered with the word, with no
side effect; an offset that is no register's is answered 0 and raises ERR_BUS (60_exceptions.md R243).
-/

namespace Sys2Proof.Machine

variable {S : Type}

/-- Read of `CMD` (R30). -/
def execRdCmd (s : State) : Host.Outcome State Fault Refusal := .next (s.readReg thePart .cmd)

/-- Read of `STATUS` (R31). -/
def execRdStatus (s : State) : Host.Outcome State Fault Refusal := .next (s.readReg thePart .status)

/-- Read of `CTRL` (R32). -/
def execRdCtrl (s : State) : Host.Outcome State Fault Refusal := .next (s.readReg thePart .ctrl)

/-- Read of `CFG_F` (R21). -/
def execRdCfgF (s : State) : Host.Outcome State Fault Refusal := .next (s.readReg thePart .cfgF)

/-- Read of `CFG_WND` (R21). -/
def execRdCfgWnd (s : State) : Host.Outcome State Fault Refusal := .next (s.readReg thePart .cfgWnd)

/-- Read of `CFG_LAT` (R21). -/
def execRdCfgLat (s : State) : Host.Outcome State Fault Refusal := .next (s.readReg thePart .cfgLat)

/-- Read of `CFG_THR` (R21). -/
def execRdCfgThr (s : State) : Host.Outcome State Fault Refusal := .next (s.readReg thePart .cfgThr)

/-- Read of `EFF_F` (R22). -/
def execRdEffF (s : State) : Host.Outcome State Fault Refusal := .next (s.readReg thePart .effF)

/-- Read of `EFF_O` (R22). -/
def execRdEffO (s : State) : Host.Outcome State Fault Refusal := .next (s.readReg thePart .effO)

/-- Read of `EFF_W` (R22). -/
def execRdEffW (s : State) : Host.Outcome State Fault Refusal := .next (s.readReg thePart .effW)

/-- Read of `EFF_L` (R22). -/
def execRdEffL (s : State) : Host.Outcome State Fault Refusal := .next (s.readReg thePart .effL)

/-- Read of `RATIO` (R23). -/
def execRdRatio (s : State) : Host.Outcome State Fault Refusal := .next (s.readReg thePart .ratio)

/-- Read of `AVG` (R23). -/
def execRdAvg (s : State) : Host.Outcome State Fault Refusal := .next (s.readReg thePart .avg)

/-- Read of `IN_LEVEL` (R30). -/
def execRdInLevel (s : State) : Host.Outcome State Fault Refusal := .next (s.readReg thePart .inLevel)

/-- Read of `OUT_LEVEL` (R30). -/
def execRdOutLevel (s : State) : Host.Outcome State Fault Refusal := .next (s.readReg thePart .outLevel)

/-- Read at the reserved offset `0x3C` (R30, R61, R243 case 3). -/
def execRdReserved3C (s : State S) : Host.Outcome (State S) Fault Refusal := .next s.refuseRead

/-- Read at an unmapped offset, `0x40` to `0x7F` (R61, R243 case 3). -/
def execRdUnmapped40To7F (_offset : Offset) (s : State S) : Host.Outcome (State S) Fault Refusal := .next s.refuseRead

/-- Read at an unmapped offset, `0x80` to `0xFF` (R61, R243 case 3). -/
def execRdUnmapped80ToFF (_offset : Offset) (s : State S) : Host.Outcome (State S) Fault Refusal := .next s.refuseRead

/-- Read at an offset that leaves 1 modulo 4 (R61, R243 case 2). -/
def execRdMisaligned1 (_offset : Offset) (s : State S) : Host.Outcome (State S) Fault Refusal := .next s.refuseRead

/-- Read at an offset that leaves 2 modulo 4 (R61, R243 case 2). -/
def execRdMisaligned2 (_offset : Offset) (s : State S) : Host.Outcome (State S) Fault Refusal := .next s.refuseRead

/-- Read at an offset that leaves 3 modulo 4 (R61, R243 case 2). -/
def execRdMisaligned3 (_offset : Offset) (s : State S) : Host.Outcome (State S) Fault Refusal := .next s.refuseRead

end Sys2Proof.Machine
end

