-- ==== Sys2Proof/Machine/Reserved.lean ====
section
/-!
DEFINITION. The reserved command words (30_encoding.md R100): each row of the table raises ERR_SEQ and changes nothing else
(60_exceptions.md R242 case 1).
-/

namespace Sys2Proof.Machine

variable {S : Type}

/-- Words `0x00000006` to `0x00000007` (R100). -/
def execCmdReserved6To7 (_code : Word) (s : State S) : Host.Outcome (State S) Fault Refusal := .next s.refuseCommand

/-- Words `0x00000008` to `0x0000000F` (R100). -/
def execCmdReservedBit3 (_code : Word) (s : State S) : Host.Outcome (State S) Fault Refusal := .next s.refuseCommand

/-- Words `0x00000010` to `0x0000001F` (R100). -/
def execCmdReservedBit4 (_code : Word) (s : State S) : Host.Outcome (State S) Fault Refusal := .next s.refuseCommand

/-- Words `0x00000020` to `0x0000003F` (R100). -/
def execCmdReservedBit5 (_code : Word) (s : State S) : Host.Outcome (State S) Fault Refusal := .next s.refuseCommand

/-- Words `0x00000040` to `0x0000007F` (R100). -/
def execCmdReservedBit6 (_code : Word) (s : State S) : Host.Outcome (State S) Fault Refusal := .next s.refuseCommand

/-- Words `0x00000080` to `0x000000FF` (R100). -/
def execCmdReservedBit7 (_code : Word) (s : State S) : Host.Outcome (State S) Fault Refusal := .next s.refuseCommand

/-- Words `0x00000100` to `0x000001FF` (R100). -/
def execCmdReservedBit8 (_code : Word) (s : State S) : Host.Outcome (State S) Fault Refusal := .next s.refuseCommand

/-- Words `0x00000200` to `0x000003FF` (R100). -/
def execCmdReservedBit9 (_code : Word) (s : State S) : Host.Outcome (State S) Fault Refusal := .next s.refuseCommand

/-- Words `0x00000400` to `0x000007FF` (R100). -/
def execCmdReservedBit10 (_code : Word) (s : State S) : Host.Outcome (State S) Fault Refusal := .next s.refuseCommand

/-- Words `0x00000800` to `0x00000FFF` (R100). -/
def execCmdReservedBit11 (_code : Word) (s : State S) : Host.Outcome (State S) Fault Refusal := .next s.refuseCommand

/-- Words `0x00001000` to `0x00001FFF` (R100). -/
def execCmdReservedBit12 (_code : Word) (s : State S) : Host.Outcome (State S) Fault Refusal := .next s.refuseCommand

/-- Words `0x00002000` to `0x00003FFF` (R100). -/
def execCmdReservedBit13 (_code : Word) (s : State S) : Host.Outcome (State S) Fault Refusal := .next s.refuseCommand

/-- Words `0x00004000` to `0x00007FFF` (R100). -/
def execCmdReservedBit14 (_code : Word) (s : State S) : Host.Outcome (State S) Fault Refusal := .next s.refuseCommand

/-- Words `0x00008000` to `0x0000FFFF` (R100). -/
def execCmdReservedBit15 (_code : Word) (s : State S) : Host.Outcome (State S) Fault Refusal := .next s.refuseCommand

/-- Words `0x00010000` to `0x0001FFFF` (R100). -/
def execCmdReservedBit16 (_code : Word) (s : State S) : Host.Outcome (State S) Fault Refusal := .next s.refuseCommand

/-- Words `0x00020000` to `0x0003FFFF` (R100). -/
def execCmdReservedBit17 (_code : Word) (s : State S) : Host.Outcome (State S) Fault Refusal := .next s.refuseCommand

/-- Words `0x00040000` to `0x0007FFFF` (R100). -/
def execCmdReservedBit18 (_code : Word) (s : State S) : Host.Outcome (State S) Fault Refusal := .next s.refuseCommand

/-- Words `0x00080000` to `0x000FFFFF` (R100). -/
def execCmdReservedBit19 (_code : Word) (s : State S) : Host.Outcome (State S) Fault Refusal := .next s.refuseCommand

/-- Words `0x00100000` to `0x001FFFFF` (R100). -/
def execCmdReservedBit20 (_code : Word) (s : State S) : Host.Outcome (State S) Fault Refusal := .next s.refuseCommand

/-- Words `0x00200000` to `0x003FFFFF` (R100). -/
def execCmdReservedBit21 (_code : Word) (s : State S) : Host.Outcome (State S) Fault Refusal := .next s.refuseCommand

/-- Words `0x00400000` to `0x007FFFFF` (R100). -/
def execCmdReservedBit22 (_code : Word) (s : State S) : Host.Outcome (State S) Fault Refusal := .next s.refuseCommand

/-- Words `0x00800000` to `0x00FFFFFF` (R100). -/
def execCmdReservedBit23 (_code : Word) (s : State S) : Host.Outcome (State S) Fault Refusal := .next s.refuseCommand

/-- Words `0x01000000` to `0x01FFFFFF` (R100). -/
def execCmdReservedBit24 (_code : Word) (s : State S) : Host.Outcome (State S) Fault Refusal := .next s.refuseCommand

/-- Words `0x02000000` to `0x03FFFFFF` (R100). -/
def execCmdReservedBit25 (_code : Word) (s : State S) : Host.Outcome (State S) Fault Refusal := .next s.refuseCommand

/-- Words `0x04000000` to `0x07FFFFFF` (R100). -/
def execCmdReservedBit26 (_code : Word) (s : State S) : Host.Outcome (State S) Fault Refusal := .next s.refuseCommand

/-- Words `0x08000000` to `0x0FFFFFFF` (R100). -/
def execCmdReservedBit27 (_code : Word) (s : State S) : Host.Outcome (State S) Fault Refusal := .next s.refuseCommand

/-- Words `0x10000000` to `0x1FFFFFFF` (R100). -/
def execCmdReservedBit28 (_code : Word) (s : State S) : Host.Outcome (State S) Fault Refusal := .next s.refuseCommand

/-- Words `0x20000000` to `0x3FFFFFFF` (R100). -/
def execCmdReservedBit29 (_code : Word) (s : State S) : Host.Outcome (State S) Fault Refusal := .next s.refuseCommand

/-- Words `0x40000000` to `0x7FFFFFFF` (R100). -/
def execCmdReservedBit30 (_code : Word) (s : State S) : Host.Outcome (State S) Fault Refusal := .next s.refuseCommand

/-- Words `0x80000000` to `0xFFFFFFFF` (R100). -/
def execCmdReservedBit31 (_code : Word) (s : State S) : Host.Outcome (State S) Fault Refusal := .next s.refuseCommand

end Sys2Proof.Machine
end

