-- ==== Sys2Proof/Machine/Writes.lean ====
section
/-!
DEFINITION. Register writes other than to CMD (20_memory.md R60, R61; 10_state.md R30 to R32): the staging registers, the
acknowledgement of error flags, and the writes that raise ERR_BUS and write nothing (60_exceptions.md R243).
-/

namespace Sys2Proof.Machine

variable {S : Type}

/-- Write of `STATUS`: clears the error flags whose bits are 1; every other bit is ignored and nothing is raised (R31). -/
def execWrStatus (data : Word) (s : State S) : Host.Outcome (State S) Fault Refusal := .next (s.acknowledge data)

/-- Write of `CTRL`: bits 31:2 are ignored (R32). -/
def execWrCtrl (data : Word) (s : State S) : Host.Outcome (State S) Fault Refusal := .next (s.setCtrl data)

/-- Write of `CFG_F`: replaces the staged value and nothing else (R21). -/
def execWrCfgF (data : Word) (s : State S) : Host.Outcome (State S) Fault Refusal := .next (s.setCfgF data)

/-- Write of `CFG_WND`: replaces the staged value and nothing else (R21). -/
def execWrCfgWnd (data : Word) (s : State S) : Host.Outcome (State S) Fault Refusal := .next (s.setCfgWnd data)

/-- Write of `CFG_LAT`: replaces the staged value and nothing else (R21). -/
def execWrCfgLat (data : Word) (s : State S) : Host.Outcome (State S) Fault Refusal := .next (s.setCfgLat data)

/-- Write of `CFG_THR`: replaces the staged value and nothing else (R21). -/
def execWrCfgThr (data : Word) (s : State S) : Host.Outcome (State S) Fault Refusal := .next (s.setCfgThr data)

/-- Write of the read-only `EFF_F` (R30, R243 case 4). -/
def execWrEffFIllegal (_data : Word) (s : State S) : Host.Outcome (State S) Fault Refusal := .next s.refuseWrite

/-- Write of the read-only `EFF_O` (R30, R243 case 4). -/
def execWrEffOIllegal (_data : Word) (s : State S) : Host.Outcome (State S) Fault Refusal := .next s.refuseWrite

/-- Write of the read-only `EFF_W` (R30, R243 case 4). -/
def execWrEffWIllegal (_data : Word) (s : State S) : Host.Outcome (State S) Fault Refusal := .next s.refuseWrite

/-- Write of the read-only `EFF_L` (R30, R243 case 4). -/
def execWrEffLIllegal (_data : Word) (s : State S) : Host.Outcome (State S) Fault Refusal := .next s.refuseWrite

/-- Write of the read-only `RATIO` (R30, R243 case 4). -/
def execWrRatioIllegal (_data : Word) (s : State S) : Host.Outcome (State S) Fault Refusal := .next s.refuseWrite

/-- Write of the read-only `AVG` (R30, R243 case 4). -/
def execWrAvgIllegal (_data : Word) (s : State S) : Host.Outcome (State S) Fault Refusal := .next s.refuseWrite

/-- Write of the read-only `IN_LEVEL` (R30, R243 case 4). -/
def execWrInLevelIllegal (_data : Word) (s : State S) : Host.Outcome (State S) Fault Refusal := .next s.refuseWrite

/-- Write of the read-only `OUT_LEVEL` (R30, R243 case 4). -/
def execWrOutLevelIllegal (_data : Word) (s : State S) : Host.Outcome (State S) Fault Refusal := .next s.refuseWrite

/-- Write at the reserved offset `0x3C` (R61, R243 case 3). -/
def execWrReserved3C (_data : Word) (s : State S) : Host.Outcome (State S) Fault Refusal := .next s.refuseWrite

/-- Write at an unmapped offset, `0x40` to `0x7F` (R61, R243 case 3). -/
def execWrUnmapped40To7F (_offset : Offset) (_data : Word) (s : State S) : Host.Outcome (State S) Fault Refusal :=
  .next s.refuseWrite

/-- Write at an unmapped offset, `0x80` to `0xFF` (R61, R243 case 3). -/
def execWrUnmapped80ToFF (_offset : Offset) (_data : Word) (s : State S) : Host.Outcome (State S) Fault Refusal :=
  .next s.refuseWrite

/-- Write at an offset that leaves 1 modulo 4 (R61, R243 case 2). -/
def execWrMisaligned1 (_offset : Offset) (_data : Word) (s : State S) : Host.Outcome (State S) Fault Refusal :=
  .next s.refuseWrite

/-- Write at an offset that leaves 2 modulo 4 (R61, R243 case 2). -/
def execWrMisaligned2 (_offset : Offset) (_data : Word) (s : State S) : Host.Outcome (State S) Fault Refusal :=
  .next s.refuseWrite

/-- Write at an offset that leaves 3 modulo 4 (R61, R243 case 2). -/
def execWrMisaligned3 (_offset : Offset) (_data : Word) (s : State S) : Host.Outcome (State S) Fault Refusal :=
  .next s.refuseWrite

end Sys2Proof.Machine
end

