-- ==== Sys2Proof/Machine/Dispatch.lean ====
section
/-!
DEFINITION. The meaning of every operation: one arm per constructor of Instr.
-/

namespace Sys2Proof.Machine

/-- What an operation does to the state. -/
def exec (i : Instr) (s : State) : Host.Outcome State Fault Refusal :=
  match i with
  | .nop => Sys2Proof.Machine.execNop s
  | .init => Sys2Proof.Machine.execInit s
  | .proc => Sys2Proof.Machine.execProc s
  | .flush => Sys2Proof.Machine.execFlush s
  | .setthr => Sys2Proof.Machine.execSetthr s
  | .stop => Sys2Proof.Machine.execStop s
  | .cmdReserved6To7 code => Sys2Proof.Machine.execCmdReserved6To7 code s
  | .cmdReservedBit3 code => Sys2Proof.Machine.execCmdReservedBit3 code s
  | .cmdReservedBit4 code => Sys2Proof.Machine.execCmdReservedBit4 code s
  | .cmdReservedBit5 code => Sys2Proof.Machine.execCmdReservedBit5 code s
  | .cmdReservedBit6 code => Sys2Proof.Machine.execCmdReservedBit6 code s
  | .cmdReservedBit7 code => Sys2Proof.Machine.execCmdReservedBit7 code s
  | .cmdReservedBit8 code => Sys2Proof.Machine.execCmdReservedBit8 code s
  | .cmdReservedBit9 code => Sys2Proof.Machine.execCmdReservedBit9 code s
  | .cmdReservedBit10 code => Sys2Proof.Machine.execCmdReservedBit10 code s
  | .cmdReservedBit11 code => Sys2Proof.Machine.execCmdReservedBit11 code s
  | .cmdReservedBit12 code => Sys2Proof.Machine.execCmdReservedBit12 code s
  | .cmdReservedBit13 code => Sys2Proof.Machine.execCmdReservedBit13 code s
  | .cmdReservedBit14 code => Sys2Proof.Machine.execCmdReservedBit14 code s
  | .cmdReservedBit15 code => Sys2Proof.Machine.execCmdReservedBit15 code s
  | .cmdReservedBit16 code => Sys2Proof.Machine.execCmdReservedBit16 code s
  | .cmdReservedBit17 code => Sys2Proof.Machine.execCmdReservedBit17 code s
  | .cmdReservedBit18 code => Sys2Proof.Machine.execCmdReservedBit18 code s
  | .cmdReservedBit19 code => Sys2Proof.Machine.execCmdReservedBit19 code s
  | .cmdReservedBit20 code => Sys2Proof.Machine.execCmdReservedBit20 code s
  | .cmdReservedBit21 code => Sys2Proof.Machine.execCmdReservedBit21 code s
  | .cmdReservedBit22 code => Sys2Proof.Machine.execCmdReservedBit22 code s
  | .cmdReservedBit23 code => Sys2Proof.Machine.execCmdReservedBit23 code s
  | .cmdReservedBit24 code => Sys2Proof.Machine.execCmdReservedBit24 code s
  | .cmdReservedBit25 code => Sys2Proof.Machine.execCmdReservedBit25 code s
  | .cmdReservedBit26 code => Sys2Proof.Machine.execCmdReservedBit26 code s
  | .cmdReservedBit27 code => Sys2Proof.Machine.execCmdReservedBit27 code s
  | .cmdReservedBit28 code => Sys2Proof.Machine.execCmdReservedBit28 code s
  | .cmdReservedBit29 code => Sys2Proof.Machine.execCmdReservedBit29 code s
  | .cmdReservedBit30 code => Sys2Proof.Machine.execCmdReservedBit30 code s
  | .cmdReservedBit31 code => Sys2Proof.Machine.execCmdReservedBit31 code s
  | .wrStatus data => Sys2Proof.Machine.execWrStatus data s
  | .wrCtrl data => Sys2Proof.Machine.execWrCtrl data s
  | .wrCfgF data => Sys2Proof.Machine.execWrCfgF data s
  | .wrCfgWnd data => Sys2Proof.Machine.execWrCfgWnd data s
  | .wrCfgLat data => Sys2Proof.Machine.execWrCfgLat data s
  | .wrCfgThr data => Sys2Proof.Machine.execWrCfgThr data s
  | .wrEffFIllegal data => Sys2Proof.Machine.execWrEffFIllegal data s
  | .wrEffOIllegal data => Sys2Proof.Machine.execWrEffOIllegal data s
  | .wrEffWIllegal data => Sys2Proof.Machine.execWrEffWIllegal data s
  | .wrEffLIllegal data => Sys2Proof.Machine.execWrEffLIllegal data s
  | .wrRatioIllegal data => Sys2Proof.Machine.execWrRatioIllegal data s
  | .wrAvgIllegal data => Sys2Proof.Machine.execWrAvgIllegal data s
  | .wrInLevelIllegal data => Sys2Proof.Machine.execWrInLevelIllegal data s
  | .wrOutLevelIllegal data => Sys2Proof.Machine.execWrOutLevelIllegal data s
  | .wrReserved3C data => Sys2Proof.Machine.execWrReserved3C data s
  | .wrUnmapped40To7F offset data => Sys2Proof.Machine.execWrUnmapped40To7F offset data s
  | .wrUnmapped80ToFF offset data => Sys2Proof.Machine.execWrUnmapped80ToFF offset data s
  | .wrMisaligned1 offset data => Sys2Proof.Machine.execWrMisaligned1 offset data s
  | .wrMisaligned2 offset data => Sys2Proof.Machine.execWrMisaligned2 offset data s
  | .wrMisaligned3 offset data => Sys2Proof.Machine.execWrMisaligned3 offset data s
  | .rdCmd => Sys2Proof.Machine.execRdCmd s
  | .rdStatus => Sys2Proof.Machine.execRdStatus s
  | .rdCtrl => Sys2Proof.Machine.execRdCtrl s
  | .rdCfgF => Sys2Proof.Machine.execRdCfgF s
  | .rdCfgWnd => Sys2Proof.Machine.execRdCfgWnd s
  | .rdCfgLat => Sys2Proof.Machine.execRdCfgLat s
  | .rdCfgThr => Sys2Proof.Machine.execRdCfgThr s
  | .rdEffF => Sys2Proof.Machine.execRdEffF s
  | .rdEffO => Sys2Proof.Machine.execRdEffO s
  | .rdEffW => Sys2Proof.Machine.execRdEffW s
  | .rdEffL => Sys2Proof.Machine.execRdEffL s
  | .rdRatio => Sys2Proof.Machine.execRdRatio s
  | .rdAvg => Sys2Proof.Machine.execRdAvg s
  | .rdInLevel => Sys2Proof.Machine.execRdInLevel s
  | .rdOutLevel => Sys2Proof.Machine.execRdOutLevel s
  | .rdReserved3C => Sys2Proof.Machine.execRdReserved3C s
  | .rdUnmapped40To7F offset => Sys2Proof.Machine.execRdUnmapped40To7F offset s
  | .rdUnmapped80ToFF offset => Sys2Proof.Machine.execRdUnmapped80ToFF offset s
  | .rdMisaligned1 offset => Sys2Proof.Machine.execRdMisaligned1 offset s
  | .rdMisaligned2 offset => Sys2Proof.Machine.execRdMisaligned2 offset s
  | .rdMisaligned3 offset => Sys2Proof.Machine.execRdMisaligned3 offset s
  | .push re im => Sys2Proof.Machine.execPush re im s
  | .pop => Sys2Proof.Machine.execPop s
  | .autostep => Sys2Proof.Machine.execAutostep s
  | .reset => Sys2Proof.Machine.execReset s

end Sys2Proof.Machine
end

