-- ==== Sys2Proof/Machine/Step.lean ====
section
/-!
DEFINITION. One step of the machine: one atomic step of the host or of the engine (20_memory.md R66).
-/

namespace Sys2Proof.Machine

/-- One step (R66). -/
def step (s : State) : Host.Outcome State Fault Refusal := stepWith thePart exec s

/-- The state with the request of a table key issued by the host as the very next step. The block fetches no
instructions (R24): what runs next is what the host asks for next. A number that is no key leaves the state as it is. -/
def State.withFetchWord (s : State) (nbits w : Nat) : State :=
  match requestOfKey nbits w with
  | some r => s.issueNow r
  | none => s

end Sys2Proof.Machine
end

