-- ==== Sys2Proof/Machine/AnyPart.lean ====
section
/-!
DEFINITION. The machine of any part, over any scalar carrier (00_scope.md R6, R7): what every operation does, and one step.
`exec` and `step` are these at `thePart` (`exec_eq`, `step_eq` in Laws/Ops.lean).
-/

namespace Sys2Proof.Machine

variable {S : Type}

/-- What an operation does to the state, in the machine of a part. -/
def execOf (P : Params S) (i : Instr) (s : State S) : Host.Outcome (State S) Fault Refusal :=
  match i with
  | .nop => execNop s
  | .init => .next (s.initCommand P)
  | .proc => .next (s.procCommand P)
  | .flush => .next (s.flushCommand P)
  | .setthr => .next (s.setthrCommand P)
  | .stop => execStop s
  | .cmdReserved6To7 code => execCmdReserved6To7 code s
  | .cmdReservedBit3 code => execCmdReservedBit3 code s
  | .cmdReservedBit4 code => execCmdReservedBit4 code s
  | .cmdReservedBit5 code => execCmdReservedBit5 code s
  | .cmdReservedBit6 code => execCmdReservedBit6 code s
  | .cmdReservedBit7 code => execCmdReservedBit7 code s
  | .cmdReservedBit8 code => execCmdReservedBit8 code s
  | .cmdReservedBit9 code => execCmdReservedBit9 code s
  | .cmdReservedBit10 code => execCmdReservedBit10 code s
  | .cmdReservedBit11 code => execCmdReservedBit11 code s
  | .cmdReservedBit12 code => execCmdReservedBit12 code s
  | .cmdReservedBit13 code => execCmdReservedBit13 code s
  | .cmdReservedBit14 code => execCmdReservedBit14 code s
  | .cmdReservedBit15 code => execCmdReservedBit15 code s
  | .cmdReservedBit16 code => execCmdReservedBit16 code s
  | .cmdReservedBit17 code => execCmdReservedBit17 code s
  | .cmdReservedBit18 code => execCmdReservedBit18 code s
  | .cmdReservedBit19 code => execCmdReservedBit19 code s
  | .cmdReservedBit20 code => execCmdReservedBit20 code s
  | .cmdReservedBit21 code => execCmdReservedBit21 code s
  | .cmdReservedBit22 code => execCmdReservedBit22 code s
  | .cmdReservedBit23 code => execCmdReservedBit23 code s
  | .cmdReservedBit24 code => execCmdReservedBit24 code s
  | .cmdReservedBit25 code => execCmdReservedBit25 code s
  | .cmdReservedBit26 code => execCmdReservedBit26 code s
  | .cmdReservedBit27 code => execCmdReservedBit27 code s
  | .cmdReservedBit28 code => execCmdReservedBit28 code s
  | .cmdReservedBit29 code => execCmdReservedBit29 code s
  | .cmdReservedBit30 code => execCmdReservedBit30 code s
  | .cmdReservedBit31 code => execCmdReservedBit31 code s
  | .wrStatus data => execWrStatus data s
  | .wrCtrl data => execWrCtrl data s
  | .wrCfgF data => execWrCfgF data s
  | .wrCfgWnd data => execWrCfgWnd data s
  | .wrCfgLat data => execWrCfgLat data s
  | .wrCfgThr data => execWrCfgThr data s
  | .wrEffFIllegal data => execWrEffFIllegal data s
  | .wrEffOIllegal data => execWrEffOIllegal data s
  | .wrEffWIllegal data => execWrEffWIllegal data s
  | .wrEffLIllegal data => execWrEffLIllegal data s
  | .wrRatioIllegal data => execWrRatioIllegal data s
  | .wrAvgIllegal data => execWrAvgIllegal data s
  | .wrInLevelIllegal data => execWrInLevelIllegal data s
  | .wrOutLevelIllegal data => execWrOutLevelIllegal data s
  | .wrReserved3C data => execWrReserved3C data s
  | .wrUnmapped40To7F offset data => execWrUnmapped40To7F offset data s
  | .wrUnmapped80ToFF offset data => execWrUnmapped80ToFF offset data s
  | .wrMisaligned1 offset data => execWrMisaligned1 offset data s
  | .wrMisaligned2 offset data => execWrMisaligned2 offset data s
  | .wrMisaligned3 offset data => execWrMisaligned3 offset data s
  | .rdCmd => .next (s.readReg P .cmd)
  | .rdStatus => .next (s.readReg P .status)
  | .rdCtrl => .next (s.readReg P .ctrl)
  | .rdCfgF => .next (s.readReg P .cfgF)
  | .rdCfgWnd => .next (s.readReg P .cfgWnd)
  | .rdCfgLat => .next (s.readReg P .cfgLat)
  | .rdCfgThr => .next (s.readReg P .cfgThr)
  | .rdEffF => .next (s.readReg P .effF)
  | .rdEffO => .next (s.readReg P .effO)
  | .rdEffW => .next (s.readReg P .effW)
  | .rdEffL => .next (s.readReg P .effL)
  | .rdRatio => .next (s.readReg P .ratio)
  | .rdAvg => .next (s.readReg P .avg)
  | .rdInLevel => .next (s.readReg P .inLevel)
  | .rdOutLevel => .next (s.readReg P .outLevel)
  | .rdReserved3C => execRdReserved3C s
  | .rdUnmapped40To7F offset => execRdUnmapped40To7F offset s
  | .rdUnmapped80ToFF offset => execRdUnmapped80ToFF offset s
  | .rdMisaligned1 offset => execRdMisaligned1 offset s
  | .rdMisaligned2 offset => execRdMisaligned2 offset s
  | .rdMisaligned3 offset => execRdMisaligned3 offset s
  | .push re im => .next (s.push P ⟨re, im⟩)
  | .pop => execPop s
  | .autostep => .next (s.autostep P)
  | .reset => .next (s.resetBlock P)

/-- One step of the machine of a part (R66). -/
def stepOf (P : Params S) (s : State S) : Host.Outcome (State S) Fault Refusal := stepWith P (execOf P) s

end Sys2Proof.Machine
end

