-- ==== Sys2Proof/Machine/Reference.lean ====
section
/-!
DEFINITION. The reference instance `NumR` of the numerics record (00_scope.md R9): exact real arithmetic with binary32 at
the ports (R12) and the two transforms as exact sums (R13), and the part that has it and the sizes R6 suggests: the
reference machine is `stepOf` of that part (log entry 10).
-/

namespace Sys2Proof.Machine

/-- The value of a finite float32 pattern (R12), as an exact fraction: `(-1)^s * f * 2^-149` with a zero exponent field,
else `(-1)^s * (2^23 + f) * 2^(e - 150)`. -/
def value32 (w : Word) : ℚ :=
  let e := (w.extractLsb' 23 8).toNat
  let f := (w.extractLsb' 0 23).toNat
  let m : ℚ := if e = 0 then (f : ℚ) / 2 ^ 149 else (((2 ^ 23 + f) * 2 ^ e : ℕ) : ℚ) / 2 ^ 150
  if w.getLsbD 31 then -m else m

section Rounding

variable {K : Type} [Field K] [LinearOrder K] [IsStrictOrderedRing K] [FloorRing K]

/-- The nearest integer, ties to even (R9). -/
def roundEven (y : K) : ℤ :=
  if y - ⌊y⌋ < 1 / 2 then ⌊y⌋
  else if 1 / 2 < y - ⌊y⌋ then ⌊y⌋ + 1
  else if ⌊y⌋ % 2 = 0 then ⌊y⌋ else ⌊y⌋ + 1

/-- The exponent a positive magnitude is rounded at: `floor(log2 a)`, but never below that of the smallest normal number. -/
def exponent32 (a : K) : ℤ := max (Int.log 2 a) (-126)

/-- The magnitude bits of the binary32 value nearest the positive `a`: exponent field and fraction as one number, so that a
rounding carry moves on to the next exponent. -/
def magnitude32 (a : K) : ℕ :=
  (exponent32 a + 126).toNat * 2 ^ 23 + (roundEven (a * 2 ^ (23 - exponent32 a))).toNat

/-- The largest finite binary32 value. -/
def maxFinite32 : K := ((2 ^ 24 - 1 : ℕ) : K) * 2 ^ 104

/-- `enc32` of the reference instance (R9): the nearest binary32 value, ties to even, an infinity above the largest finite
one. A number that rounds to zero gives `0x00000000` (U13: one zero; log entry 10). -/
def encode32 (x : K) : Word :=
  if maxFinite32 < |x| then (if x < 0 then 0xFF800000 else 0x7F800000)
  else if x = 0 ∨ magnitude32 |x| = 0 then 0
  else BitVec.ofNat 32 (magnitude32 |x| + if x < 0 then 2 ^ 31 else 0)

end Rounding

/-- A pair of real scalars as a complex number. -/
noncomputable def toComplex (z : Cplx ℝ) : ℂ := ⟨z.re, z.im⟩

/-- A complex number as a pair of real scalars. -/
noncomputable def ofComplex (z : ℂ) : Cplx ℝ := ⟨z.re, z.im⟩

/-- One element of a transform (R13): the sum over `m` of `v[m] * exp(sign * 2*pi*i*k*m / F)`. -/
noncomputable def transformR (sign : ℂ) (v : List (Cplx ℝ)) (k : ℕ) : Cplx ℝ :=
  ofComplex (∑ m ∈ Finset.range v.length,
    toComplex (v.getD m ⟨0, 0⟩) * Complex.exp (sign * (2 * Real.pi * Complex.I * k * m / v.length)))

open Classical in
/-- `NumR` (R9). -/
noncomputable def numR : Numerics ℝ where
  zero := 0
  one := 1
  ofNat n := n
  add := (· + ·)
  sub := (· - ·)
  mul := (· * ·)
  div := (· / ·)
  sqrt := Real.sqrt
  gt x y := decide (y < x)
  sumF := List.sum
  maxF l := l.foldl max (l.headD 0)
  db2ratio d := (10 : ℝ) ^ (d / 20)
  decFinite w := (value32 w : ℝ)
  enc32 := encode32
  fwd := transformR (-1)
  inv := transformR 1

/-- The part with the reference instance and the defaults R6 suggests, for any free values. -/
noncomputable def referencePart (bad : Nat → Nat → Word → ℝ) (next : Nat → Agent) : Params ℝ where
  num := numR
  fmax := 65536
  capIn := 2 * 65536
  capOut := 2 * 65536
  supported := lengthFits 65536 (2 * 65536) (2 * 65536)
  byteOrder := .little
  nonFinite := bad
  nextAgent := next

end Sys2Proof.Machine
end

