-- ==== Sys2Proof/Machine/Script.lean ====
section
/-!
DEFINITION. The lines of a host script and the pseudo-instructions, as the requests they stand for (30_encoding.md R106,
R107).
-/

namespace Sys2Proof.Machine

/-- The offset of a register (R30). -/
def regOffset : Reg → Offset
  | .cmd => 0x00
  | .status => 0x04
  | .ctrl => 0x08
  | .cfgF => 0x0C
  | .cfgWnd => 0x10
  | .cfgLat => 0x14
  | .cfgThr => 0x18
  | .effF => 0x1C
  | .effO => 0x20
  | .effW => 0x24
  | .effL => 0x28
  | .ratio => 0x2C
  | .avg => 0x30
  | .inLevel => 0x34
  | .outLevel => 0x38

/-- `RD name` (R106). -/
def scriptRead (r : Reg) : Request := .read (regOffset r) 4

/-- `WR name, value` (R106). -/
def scriptWrite (r : Reg) (v : Word) : Request := .write (regOffset r) v 4

/-- `PUSH re, im` (R106). -/
def scriptPush (x : Sample) : Request := .transfer (pushKey x.re x.im)

/-- `POP` (R106). -/
def scriptPop : Request := .transfer popKey

/-- `CONFIG f, wnd, lat, thr, mode, auto` (R107), the threshold given as its float32 pattern. -/
def pseudoConfig (f wnd lat thr : Word) (mode auto : Bool) : List Request :=
  [scriptWrite .cfgF f, scriptWrite .cfgWnd wnd, scriptWrite .cfgLat lat, scriptWrite .cfgThr thr,
    scriptWrite .ctrl ((BitVec.ofBool mode ++ BitVec.ofBool auto).setWidth 32), commandWrite 1]

/-- `THR x` (R107), the threshold given as its float32 pattern. -/
def pseudoThr (thr : Word) : List Request := [scriptWrite .cfgThr thr, commandWrite 4]

/-- `CLRERR` (R107). -/
def pseudoClrErr : List Request := [scriptWrite .status 0x00000700]

/-- One round of `DRAIN` (R107), once STATUS has been read: PROC if its bit 3 is 1, else nothing and the loop is over. -/
def pseudoDrainRound (status : Word) : List Request := if status.getLsbD 3 then [commandWrite 2] else []

end Sys2Proof.Machine
end

