-- ==== Sys2Proof/Machine/Serial.lean ====
section
/-!
DEFINITION. How the surrounding software writes a sample stream as bytes and reads one (20_memory.md R63, R64;
30_encoding.md R104). No operation of the block uses it: inside the block and on its ports there are only words.
-/

namespace Sys2Proof.Machine

/-- The four bytes of a word, in stream order (R64). -/
def wordBytes (o : ByteOrder) (w : Word) : List (BitVec 8) :=
  match o with
  | .little => [w.extractLsb' 0 8, w.extractLsb' 8 8, w.extractLsb' 16 8, w.extractLsb' 24 8]
  | .big => [w.extractLsb' 24 8, w.extractLsb' 16 8, w.extractLsb' 8 8, w.extractLsb' 0 8]

/-- The word of four bytes in stream order. -/
def wordOfBytes (o : ByteOrder) (a b c d : BitVec 8) : Word :=
  match o with
  | .little => d ++ c ++ b ++ a
  | .big => a ++ b ++ c ++ d

/-- The bytes of a sample: `re` alone in REAL mode, `re` then `im` in COMPLEX mode (R64, U10). -/
def sampleBytes (o : ByteOrder) (mode : Mode) (x : Sample) : List (BitVec 8) :=
  match mode with
  | .real => wordBytes o x.re
  | .complex => wordBytes o x.re ++ wordBytes o x.im

/-- The whole samples of a REAL byte stream; a partial last one is discarded (R63). -/
def realSamples (o : ByteOrder) : List (BitVec 8) → List Sample
  | a :: b :: c :: d :: rest => ⟨wordOfBytes o a b c d, 0⟩ :: realSamples o rest
  | _ => []

/-- The whole samples of a COMPLEX byte stream; a partial last one is discarded (R63). -/
def complexSamples (o : ByteOrder) : List (BitVec 8) → List Sample
  | a :: b :: c :: d :: a' :: b' :: c' :: d' :: rest =>
    ⟨wordOfBytes o a b c d, wordOfBytes o a' b' c' d'⟩ :: complexSamples o rest
  | _ => []

/-- The samples the host pushes from a byte stream. -/
def samplesOfBytes (o : ByteOrder) : Mode → List (BitVec 8) → List Sample
  | .real => realSamples o
  | .complex => complexSamples o

/-- A sample stream as the bytes the surrounding software of a part carries, in the order `BYTE_ORDER` (R6, R64). -/
def streamBytes {S : Type} (P : Params S) (mode : Mode) (xs : List Sample) : List (BitVec 8) :=
  xs.flatMap (sampleBytes P.byteOrder mode)

end Sys2Proof.Machine
end

