-- ==== Sys2Proof/Safety.lean ====
section
/-!
DEFINITION. What counts as a sound state and a clean one, in the terms the statements use.
-/

namespace Sys2Proof.Machine

variable {S : Type}

/-- The invariants of the rules: FIFO levels (10_state.md R35), the ranges of the effective parameters and the lengths of
the persistent vectors while a stage exists (R22, R33, R36), the zero tail of the transform input (R33, R152), an empty
input FIFO while none exists (R40), and numbers that their registers can show (R11). -/
structure State.Inv (P : Params S) (s : State S) : Prop where
  in_level : s.inq.length ≤ P.capIn
  out_level : s.outq.length ≤ P.capOut
  unconf_empty : s.st = .unconf → s.inq = []
  fits : s.F < 2 ^ 32 ∧ s.O < 2 ^ 32 ∧ s.W < 2 ^ 32 ∧ s.L < 2 ^ 32
  supported : s.st = .idle → P.supported s.F = true
  overlap_eq : s.st = .idle → s.O = overlap s.F
  window : s.st = .idle → 1 ≤ s.W ∧ s.W ≤ 127 ∧ 2 * s.W ≤ s.F / 2
  latency : s.st = .idle → 1 ≤ s.L
  fin_length : s.st = .idle → s.fin.length = s.F
  fin_tail : s.st = .idle → ∀ i, s.F - s.O ≤ i → i < s.F → s.fin[i]? = some P.num.czero
  carry_length : s.st = .idle → s.carry.length = s.O

/-- No error flag is set: every command so far did what its rule says (60_exceptions.md R248), since none was dropped. -/
def State.clean (s : State S) : Bool := !s.errCfg && !s.errSeq && !s.errBus

/-- The two states hold the same block but for the error flags (10_state.md R26). -/
def State.sameButFlags (s t : State S) : Prop :=
  t = { s with errCfg := t.errCfg, errSeq := t.errSeq, errBus := t.errBus }

/-- The two states hold the same block but for the five staging registers (10_state.md R21). -/
def State.sameButStaging (s t : State S) : Prop :=
  t = { s with ctrl := t.ctrl, cfgF := t.cfgF, cfgWnd := t.cfgWnd, cfgLat := t.cfgLat, cfgThr := t.cfgThr }

end Sys2Proof.Machine
end

