-- ==== Sys2Proof/Certificates/Slice0/Obligations.lean ====
section
/-!
DEFINITION. The statements for the provers. Each docstring names the rules of spec/ it formalises. `exec` and `step` are the
operations and the step at `thePart`, the open part of `Sys2Proof.core`; `execOf P` and `stepOf P` are those of any part, over
any scalar carrier.
-/

open Sys2Proof Sys2Proof.Machine

/-! ### Encodings -/

/-- R90, R92, R96, R100: no bit of an encoding is dropped: what is decoded from the request of a well-formed operation is that
operation, with every operand. AUTOSTEP alone has no request (R90). -/
def Obligations.DecodeOfEncodeIsTheOperation : Prop :=
  (∀ i r, i.wellFormed = true → encode i = some r → decode r = .ok i) ∧ (∀ i, encode i = none ↔ i = .autostep)

/-- R90: what a request decodes to is a well-formed operation, and the request's key selects that operation's row of the
opcode table: the rows cover all keys. -/
def Obligations.DecodedOperationIsOfItsTableRow : Prop :=
  ∀ r i, decode r = .ok i → i.wellFormed = true ∧ r.selects i.row = true

/-- R90: the rows of the table are disjoint: a key selects one row at most. -/
def Obligations.TableRowsAreDisjoint : Prop :=
  ∀ (r : Request) (i j : Instr), r.selects i.row = true → r.selects j.row = true → i.row = j.row

/-- R96, R30, R90: words written out from the encodings of the rules and of the programs P1 to P4. -/
def Obligations.WrittenOutWordsDecode : Prop :=
  decode (.write 0x00 0x00000003 4) = .ok .flush ∧ decode (.write 0x0C 0x00000020 4) = .ok (.wrCfgF 0x20) ∧
  decode (.write 0x00 0x00000100 4) = .ok (.cmdReservedBit8 0x100) ∧ decode (.write 0x30 1 4) = .ok (.wrAvgIllegal 1) ∧
  decode (.read 0x38 4) = .ok .rdOutLevel ∧ decode (.read 0x06 4) = .ok (.rdMisaligned2 0x06) ∧
  decode (.transfer 0x03F80000000000000) = .ok (.push 0x3F800000 0) ∧ decode (.transfer 0x10000000000000000) = .ok .pop

/-- R107: what the pseudo-instructions expand to, as operations. -/
def Obligations.PseudoInstructionsExpand : Prop :=
  ∀ f wnd lat thr v : Word, ∀ mode auto : Bool,
    (pseudoConfig f wnd lat thr mode auto).map decode =
      [.ok (.wrCfgF f), .ok (.wrCfgWnd wnd), .ok (.wrCfgLat lat), .ok (.wrCfgThr thr),
        .ok (.wrCtrl (BitVec.ofNat 32 (2 * mode.toNat + auto.toNat))), .ok .init] ∧
    (pseudoThr thr).map decode = [.ok (.wrCfgThr thr), .ok .setthr] ∧
    pseudoClrErr.map decode = [.ok (.wrStatus 0x00000700)] ∧
    (pseudoDrainRound v).map decode = if v.getLsbD 3 then [.ok .proc] else []

/-! ### Steps -/

/-- R66, R67: where the oldest request is an operation that need not wait and the engine does not move, the step runs that
operation. What the step adds around `exec` is the model's own bookkeeping (log entries 5, 6, 7): the request leaves the
host's list, the next step's preference is drawn, the step is counted. -/
def Obligations.StepRunsTheDecodedOperation : Prop :=
  ∀ (s : State) (r : Request) (rest : List Request) (i : Instr),
    s.host = r :: rest → decode r = .ok i → s.holds thePart i = false → s.autoEnabled thePart = false ∨ s.turn = .host →
      step s = exec i { s with host := rest, turn := thePart.nextAgent s.tick, tick := s.tick + 1 }

/-- R67: the host's steps happen in the order it issued them: a step takes nothing from the host's list or its oldest
request. MODEL'S CHOICE (log entry 5, DESIGN CHOICE): while the oldest request is a transfer that is not enabled the host
has no step. R212 and R226 say that a transfer waits and that INIT or a POP of the host may lift a hold; in the model such a
step stands before the transfer in the host's list. R212, R214: a request waits iff it is a PUSH without a stage or with a
full `inq`, or a POP with an empty `outq`. The list and the bookkeeping are the model's own (log entries 5, 6, 7). -/
def Obligations.HostStepsHappenInTheOrderIssued : Prop :=
  (∀ s t : State, step s = .next t → t.host = s.host ∨ ∃ r, s.host = r :: t.host ∧ s.holdsRequest thePart r = false) ∧
  (∀ (s : State) (r : Request) (rest : List Request) (i : Instr),
    s.host = r :: rest → decode r = .ok i → s.holds thePart i = true →
      step s = if s.autoEnabled thePart
        then exec .autostep { s with turn := thePart.nextAgent s.tick, tick := s.tick + 1 }
        else .next { s with turn := thePart.nextAgent s.tick, tick := s.tick + 1 }) ∧
  (∀ (s : State) (i : Instr), s.holds thePart i = true ↔
    ((∃ re im, i = .push re im) ∧ (s.st = .unconf ∨ thePart.capIn ≤ s.inq.length)) ∨ (i = .pop ∧ s.outq = []))

/-- R220, R66: where an AUTOSTEP is enabled and it is the engine's turn, or the host has no step, the step is the AUTOSTEP
(whose turn it is: log entry 6; that a held oldest request leaves the host no step: log entry 5, the model's choice). -/
def Obligations.EngineStepsWhenItsTurn : Prop :=
  ∀ s : State, s.auto = true → s.canProcess thePart = true → s.turn = .engine ∨ s.hostWaits thePart →
    step s = exec .autostep { s with turn := thePart.nextAgent s.tick, tick := s.tick + 1 }

/-- R226: where neither agent has a step, nothing of the block changes; the requests stay (log entries 5, 6, 7). That a held
oldest request leaves the host no step is the model's choice (log entry 5). -/
def Obligations.NothingMovesWhereNothingIsEnabled : Prop :=
  ∀ s : State, s.autoEnabled thePart = false → s.hostWaits thePart →
    step s = .next { s with turn := thePart.nextAgent s.tick, tick := s.tick + 1 }

/-- R61, R243 case 1: an access of a size other than 4 bytes raises ERR_BUS; the read returns 0, the write writes nothing and
runs no command. -/
def Obligations.WrongSizeAccessRaisesBusError : Prop :=
  ∀ (s : State) (offset : Offset) (data : Word) (size : Nat) (rest : List Request),
    size ≠ 4 → s.autoEnabled thePart = false ∨ s.turn = .host →
      (s.host = .read offset size :: rest → step s = .next { s with
        host := rest, turn := thePart.nextAgent s.tick, tick := s.tick + 1, errBus := true, reply := .word 0 }) ∧
      (s.host = .write offset data size :: rest → step s = .next { s with
        host := rest, turn := thePart.nextAgent s.tick, tick := s.tick + 1, errBus := true })

/-- R246, R248: no operation and no step ends in a fault or a refusal, in the machine of any part. -/
def Obligations.EveryStepHasANextState : Prop :=
  (∀ i s, ∃ t, exec i s = .next t) ∧ (∀ s, ∃ t, step s = .next t) ∧
  (∀ (S : Type) (P : Params S), (∀ i s, ∃ t, execOf P i s = .next t) ∧ ∀ s, ∃ t, stepOf P s = .next t)

/-- The model's own bound (log entries 5 and 6), under which the weak fairness of 43_stream_ports.md R224 holds: while
background mode and `canProcess` hold, the engine's step comes after at most as many steps as the host has requests
outstanding. R224 itself assumes only that the step eventually happens. -/
def Obligations.EngineProgressIsBounded : Prop :=
  ∀ s : State, s.autoEnabled thePart = true → ∃ k t, k ≤ s.host.length ∧ Sys2Proof.core.run k s = .next t ∧
    (t.nextMove thePart = .engine ∨ t.autoEnabled thePart = false)

/-! ### The invariant -/

/-- R40: the state after reset meets the invariants, in the machine of any part. -/
def Obligations.InvariantHoldsAtReset : Prop :=
  State.reset.Inv thePart ∧ ∀ (S : Type) (P : Params S), (State.cleared P.num.zero).Inv P

/-- R22, R33, R35, R36, R40: every step keeps the invariants, in the machine of any part. -/
def Obligations.EveryStepKeepsTheInvariant : Prop :=
  (∀ s t : State, s.Inv thePart → step s = .next t → t.Inv thePart) ∧
  (∀ (S : Type) (P : Params S) (s t : State S), s.Inv P → stepOf P s = .next t → t.Inv P)

/-- R122, R36: the derived parameters are in range for every content of the staging registers. -/
def Obligations.DerivedParametersAreInRange : Prop :=
  ∀ f wnd lat : Word,
    32 ≤ deriveF f ∧ deriveF f < 2 ^ 32 ∧ 1 ≤ deriveO f ∧ 3 * deriveO f ≤ deriveF f ∧
    1 ≤ deriveW f wnd ∧ deriveW f wnd ≤ 127 ∧ 2 * deriveW f wnd ≤ deriveF f / 2 ∧
    1 ≤ deriveL lat ∧ deriveL lat < 2 ^ 32

/-! ### Commands -/

/-- R120: NOP is a write of 0 to CMD, has no effect and raises nothing, in every state. -/
def Obligations.NopChangesNothing : Prop :=
  decode (commandWrite 0x00000000) = .ok .nop ∧ ∀ s : State, exec .nop s = .next s

/-- R121, R122, R124, R126: an INIT on a live stage raises ERR_SEQ; in UNCONF an unsupported length or a threshold without a
value raises ERR_CFG; otherwise it latches the parameters derived from the staging registers and makes a fresh stage.
Nothing else changes. First for `exec`, then for the machine of any part. -/
def Obligations.InitMakesAStageOrRefuses : Prop :=
  decode (commandWrite 0x00000001) = .ok .init ∧
  (∀ s : State, s.st = .idle → exec .init s = .next { s with errSeq := true }) ∧
  (∀ s : State, s.st = .unconf → exec .init s = .next
    (match if thePart.supported (max 32 s.cfgF.toNat) then dec32 thePart.num s.cfgThr else none with
    | none => { s with errCfg := true }
    | some d => { s with
      st := .idle
      F := max 32 s.cfgF.toNat
      O := max 1 (max 32 s.cfgF.toNat / 64)
      W := min (max (min (max s.cfgWnd.toNat 1) (max 32 s.cfgF.toNat / 2)) 2) 254 / 2
      L := max 1 s.cfgLat.toNat
      mode := if s.ctrl.getLsbD 1 then .complex else .real
      auto := s.ctrl.getLsbD 0
      ratio := thePart.num.db2ratio d
      avg := thePart.num.zero
      fin := List.replicate (max 32 s.cfgF.toNat) ⟨thePart.num.zero, thePart.num.zero⟩
      carry := List.replicate (max 1 (max 32 s.cfgF.toNat / 64)) ⟨thePart.num.zero, thePart.num.zero⟩ })) ∧
  (∀ (S : Type) (P : Params S) (s : State S),
    (s.st = .idle → execOf P .init s = .next { s with errSeq := true }) ∧
    (s.st = .unconf → P.supported (max 32 s.cfgF.toNat) = false ∨ dec32 P.num s.cfgThr = none →
      execOf P .init s = .next { s with errCfg := true }) ∧
    (∀ d, s.st = .unconf → P.supported (max 32 s.cfgF.toNat) = true → dec32 P.num s.cfgThr = some d →
      execOf P .init s = .next { s with
      st := .idle
      F := max 32 s.cfgF.toNat
      O := max 1 (max 32 s.cfgF.toNat / 64)
      W := min (max (min (max s.cfgWnd.toNat 1) (max 32 s.cfgF.toNat / 2)) 2) 254 / 2
      L := max 1 s.cfgLat.toNat
      mode := if s.ctrl.getLsbD 1 then .complex else .real
      auto := s.ctrl.getLsbD 0
      ratio := P.num.db2ratio d
      avg := P.num.zero
      fin := List.replicate (max 32 s.cfgF.toNat) ⟨P.num.zero, P.num.zero⟩
      carry := List.replicate (max 1 (max 32 s.cfgF.toNat / 64)) ⟨P.num.zero, P.num.zero⟩ }))

/-- R7, R103: the patterns without a value are the NaNs and the infinities, those whose exponent field is 255. -/
def Obligations.Dec32NoneExactlyOnNonFinitePatterns : Prop :=
  ∀ (S : Type) (N : Numerics S) (w : Word), dec32 N w = none ↔ (w.toNat / 2 ^ 23) % 2 ^ 8 = 255

/-- R6: in every part that R6 admits, and in the open part of `exec`, a supported length is at least 32, at most FMAX, and its
block fits both FIFOs, whose capacities are at least 31. Imposing these bounds (log entry 1) changes no part that has them. -/
def Obligations.SupportedLengthsFit : Prop :=
  (∀ (S : Type) (P : Params S), PartOk P → 32 ≤ P.fmax ∧ 31 ≤ P.capIn ∧ 31 ≤ P.capOut ∧
    ∀ F, P.supported F = true → 32 ≤ F ∧ F ≤ P.fmax ∧ F - max 1 (F / 64) ≤ min P.capIn P.capOut) ∧
  (32 ≤ thePart.fmax ∧ 31 ≤ thePart.capIn ∧ 31 ≤ thePart.capOut ∧
    ∀ F, thePart.supported F = true → 32 ≤ F ∧ F ≤ thePart.fmax ∧
      F - max 1 (F / 64) ≤ min thePart.capIn thePart.capOut) ∧
  (∀ (S : Type) [DecidableEq S] (P : Params S), PartOk P → (lawfulPart P).fmax = P.fmax ∧ (lawfulPart P).capIn = P.capIn ∧
    (lawfulPart P).capOut = P.capOut ∧ ∀ F, (lawfulPart P).supported F = P.supported F)

/-- R130: SETTHR replaces the ratio of a live stage, drops a pattern without a value, and raises ERR_SEQ where there is no
stage; nothing else changes. -/
def Obligations.SetthrReplacesTheRatio : Prop :=
  decode (commandWrite 0x00000004) = .ok .setthr ∧
  ∀ s : State,
    (s.st = .unconf → exec .setthr s = .next { s with errSeq := true }) ∧
    (s.st = .idle → dec32 thePart.num s.cfgThr = none → exec .setthr s = .next s) ∧
    (∀ d, s.st = .idle → dec32 thePart.num s.cfgThr = some d →
      exec .setthr s = .next { s with ratio := thePart.num.db2ratio d })

/-- R134: STOP empties `inq` and leaves no stage, and keeps everything else; ERR_SEQ where there is no stage. Afterwards
CONF, CANPROC and IN_READY read 0 and no AUTOSTEP is enabled. -/
def Obligations.StopDestroysTheStage : Prop :=
  decode (commandWrite 0x00000005) = .ok .stop ∧
  ∀ s : State,
    (s.st = .idle → ∃ t, exec .stop s = .next t ∧ t = { s with inq := [], st := .unconf } ∧
      (t.reg thePart .status).getLsbD 0 = false ∧ (t.reg thePart .status).getLsbD 3 = false ∧
      (t.reg thePart .status).getLsbD 4 = false ∧ t.autoEnabled thePart = false) ∧
    (s.st = .unconf → exec .stop s = .next { s with errSeq := true })

/-- R150, R151: a legal PROC takes the `F - O` oldest samples, updates `fin`, `avg` and `carry`, appends the block's output,
and changes nothing else; where `canProcess` is false it raises ERR_SEQ and changes nothing else. -/
def Obligations.ProcRunsAFullBlock : Prop :=
  decode (commandWrite 0x00000002) = .ok .proc ∧
  ∀ s : State,
    (s.st = .idle → s.F - s.O ≤ s.inq.length → s.F - s.O ≤ thePart.capOut - s.outq.length →
      exec .proc s = .next { s with
        inq := s.inq.drop (s.F - s.O)
        fin := s.loaded thePart (s.F - s.O)
        avg := newAverage thePart.num s.L s.avg (forward thePart.num (s.loaded thePart (s.F - s.O)))
        carry := newCarry thePart.num s.F s.O (s.blockRec thePart (s.F - s.O))
        outq := s.outq ++ blockOut thePart.num s.O (s.F - s.O) s.mode (s.blockRec thePart (s.F - s.O)) s.carry }) ∧
    (¬(s.st = .idle ∧ s.F - s.O ≤ s.inq.length ∧ s.F - s.O ≤ thePart.capOut - s.outq.length) →
      exec .proc s = .next { s with errSeq := true })

/-- R162: FLUSH runs a block on what input is left, up to a block; does nothing without input; raises ERR_SEQ without a stage
or without room. With a full block of input it is exactly PROC. -/
def Obligations.FlushRunsWhatIsLeft : Prop :=
  decode (commandWrite 0x00000003) = .ok .flush ∧
  (∀ (s : State) (n : Nat), n = min s.inq.length (s.F - s.O) →
    (s.st = .unconf → exec .flush s = .next { s with errSeq := true }) ∧
    (s.st = .idle → n = 0 → exec .flush s = .next s) ∧
    (s.st = .idle → 0 < n → thePart.capOut - s.outq.length < n → exec .flush s = .next { s with errSeq := true }) ∧
    (s.st = .idle → 0 < n → n ≤ thePart.capOut - s.outq.length →
      exec .flush s = .next { s with
        inq := s.inq.drop n
        fin := s.loaded thePart n
        avg := newAverage thePart.num s.L s.avg (forward thePart.num (s.loaded thePart n))
        carry := newCarry thePart.num s.F s.O (s.blockRec thePart n)
        outq := s.outq ++ blockOut thePart.num s.O n s.mode (s.blockRec thePart n) s.carry })) ∧
  (∀ s : State, s.st = .idle → s.O < s.F → s.F - s.O ≤ s.inq.length → exec .flush s = exec .proc s)

/-- R216, R220: an AUTOSTEP is enabled in background mode where `canProcess` holds, and is then exactly a legal PROC; where it
is not enabled nothing happens. -/
def Obligations.AutostepIsALegalProc : Prop :=
  ∀ s : State,
    (s.auto = true → s.st = .idle → s.F - s.O ≤ s.inq.length → s.F - s.O ≤ thePart.capOut - s.outq.length →
      exec .autostep s = .next (s.runBlock thePart (s.F - s.O)) ∧ exec .autostep s = exec .proc s) ∧
    (¬(s.auto = true ∧ s.st = .idle ∧ s.F - s.O ≤ s.inq.length ∧ s.F - s.O ≤ thePart.capOut - s.outq.length) →
      exec .autostep s = .next s)

/-- R100, R242 case 1: every command word but the six codes is reserved: it raises ERR_SEQ and changes nothing else. -/
def Obligations.ReservedCommandsRaiseSequenceError : Prop :=
  (∀ (w : Word) (s : State), 6 ≤ w.toNat →
    ∃ i, decode (commandWrite w) = .ok i ∧ exec i s = .next { s with errSeq := true }) ∧
  ∀ (w : Word) (s : State),
    exec (.cmdReserved6To7 w) s = .next { s with errSeq := true } ∧
    exec (.cmdReservedBit3 w) s = .next { s with errSeq := true } ∧
    exec (.cmdReservedBit4 w) s = .next { s with errSeq := true } ∧
    exec (.cmdReservedBit5 w) s = .next { s with errSeq := true } ∧
    exec (.cmdReservedBit6 w) s = .next { s with errSeq := true } ∧
    exec (.cmdReservedBit7 w) s = .next { s with errSeq := true } ∧
    exec (.cmdReservedBit8 w) s = .next { s with errSeq := true } ∧
    exec (.cmdReservedBit9 w) s = .next { s with errSeq := true } ∧
    exec (.cmdReservedBit10 w) s = .next { s with errSeq := true } ∧
    exec (.cmdReservedBit11 w) s = .next { s with errSeq := true } ∧
    exec (.cmdReservedBit12 w) s = .next { s with errSeq := true } ∧
    exec (.cmdReservedBit13 w) s = .next { s with errSeq := true } ∧
    exec (.cmdReservedBit14 w) s = .next { s with errSeq := true } ∧
    exec (.cmdReservedBit15 w) s = .next { s with errSeq := true } ∧
    exec (.cmdReservedBit16 w) s = .next { s with errSeq := true } ∧
    exec (.cmdReservedBit17 w) s = .next { s with errSeq := true } ∧
    exec (.cmdReservedBit18 w) s = .next { s with errSeq := true } ∧
    exec (.cmdReservedBit19 w) s = .next { s with errSeq := true } ∧
    exec (.cmdReservedBit20 w) s = .next { s with errSeq := true } ∧
    exec (.cmdReservedBit21 w) s = .next { s with errSeq := true } ∧
    exec (.cmdReservedBit22 w) s = .next { s with errSeq := true } ∧
    exec (.cmdReservedBit23 w) s = .next { s with errSeq := true } ∧
    exec (.cmdReservedBit24 w) s = .next { s with errSeq := true } ∧
    exec (.cmdReservedBit25 w) s = .next { s with errSeq := true } ∧
    exec (.cmdReservedBit26 w) s = .next { s with errSeq := true } ∧
    exec (.cmdReservedBit27 w) s = .next { s with errSeq := true } ∧
    exec (.cmdReservedBit28 w) s = .next { s with errSeq := true } ∧
    exec (.cmdReservedBit29 w) s = .next { s with errSeq := true } ∧
    exec (.cmdReservedBit30 w) s = .next { s with errSeq := true } ∧
    exec (.cmdReservedBit31 w) s = .next { s with errSeq := true }

/-! ### Register accesses -/

/-- R21, R32, R60: a write of a staging register replaces its value and nothing else; CTRL keeps two bits. -/
def Obligations.StagingWritesReplaceOneRegister : Prop :=
  ∀ (v : Word) (s : State),
    exec (.wrCtrl v) s = .next { s with ctrl := v.extractLsb' 0 2 } ∧
    exec (.wrCfgF v) s = .next { s with cfgF := v } ∧
    exec (.wrCfgWnd v) s = .next { s with cfgWnd := v } ∧
    exec (.wrCfgLat v) s = .next { s with cfgLat := v } ∧
    exec (.wrCfgThr v) s = .next { s with cfgThr := v }

/-- R61, R243: a write to a read-only register, to the reserved offset, or to an unmapped or misaligned one raises ERR_BUS
and writes nothing. -/
def Obligations.RefusedWritesRaiseBusError : Prop :=
  ∀ (o : Offset) (v : Word) (s : State),
    exec (.wrEffFIllegal v) s = .next { s with errBus := true } ∧
    exec (.wrEffOIllegal v) s = .next { s with errBus := true } ∧
    exec (.wrEffWIllegal v) s = .next { s with errBus := true } ∧
    exec (.wrEffLIllegal v) s = .next { s with errBus := true } ∧
    exec (.wrRatioIllegal v) s = .next { s with errBus := true } ∧
    exec (.wrAvgIllegal v) s = .next { s with errBus := true } ∧
    exec (.wrInLevelIllegal v) s = .next { s with errBus := true } ∧
    exec (.wrOutLevelIllegal v) s = .next { s with errBus := true } ∧
    exec (.wrReserved3C v) s = .next { s with errBus := true } ∧
    exec (.wrUnmapped40To7F o v) s = .next { s with errBus := true } ∧
    exec (.wrUnmapped80ToFF o v) s = .next { s with errBus := true } ∧
    exec (.wrMisaligned1 o v) s = .next { s with errBus := true } ∧
    exec (.wrMisaligned2 o v) s = .next { s with errBus := true } ∧
    exec (.wrMisaligned3 o v) s = .next { s with errBus := true }

/-- R30, R60, R65: a register read answers the register's word and changes nothing else: CMD and the reserved bits of CTRL
read 0, EFF_* and the levels are numbers, RATIO and AVG are float32 patterns (STATUS: the next statement). -/
def Obligations.RegisterReadsAnswerTheWord : Prop :=
  ∀ s : State,
    exec .rdCmd s = .next { s with reply := .word 0 } ∧
    exec .rdCtrl s = .next { s with reply := .word (0#30 ++ s.ctrl) } ∧
    exec .rdCfgF s = .next { s with reply := .word s.cfgF } ∧
    exec .rdCfgWnd s = .next { s with reply := .word s.cfgWnd } ∧
    exec .rdCfgLat s = .next { s with reply := .word s.cfgLat } ∧
    exec .rdCfgThr s = .next { s with reply := .word s.cfgThr } ∧
    exec .rdEffF s = .next { s with reply := .word (BitVec.ofNat 32 s.F) } ∧
    exec .rdEffO s = .next { s with reply := .word (BitVec.ofNat 32 s.O) } ∧
    exec .rdEffW s = .next { s with reply := .word (BitVec.ofNat 32 s.W) } ∧
    exec .rdEffL s = .next { s with reply := .word (BitVec.ofNat 32 s.L) } ∧
    exec .rdRatio s = .next { s with reply := .word (thePart.num.enc32 s.ratio) } ∧
    exec .rdAvg s = .next { s with reply := .word (thePart.num.enc32 s.avg) } ∧
    exec .rdInLevel s = .next { s with reply := .word (BitVec.ofNat 32 s.inq.length) } ∧
    exec .rdOutLevel s = .next { s with reply := .word (BitVec.ofNat 32 s.outq.length) }

/-- R31, R216, R250: a read of STATUS answers a word with the six live bits and the three flags in their places and 0
elsewhere, and changes nothing else; a write clears the flags whose bits are 1 and changes nothing else. -/
def Obligations.StatusReadsAndClears : Prop :=
  (∀ s : State, ∃ w : Word, exec .rdStatus s = .next { s with reply := .word w } ∧
    w.getLsbD 0 = decide (s.st = .idle) ∧ w.getLsbD 1 = s.auto ∧ w.getLsbD 2 = decide (s.mode = .complex) ∧
    w.getLsbD 3 = decide (s.st = .idle ∧ s.F - s.O ≤ s.inq.length ∧ s.F - s.O ≤ thePart.capOut - s.outq.length) ∧
    w.getLsbD 4 = decide (s.st = .idle ∧ s.inq.length < thePart.capIn) ∧ w.getLsbD 5 = decide (0 < s.outq.length) ∧
    w.getLsbD 8 = s.errCfg ∧ w.getLsbD 9 = s.errSeq ∧ w.getLsbD 10 = s.errBus ∧
    (∀ n, n = 6 ∨ n = 7 ∨ 11 ≤ n → w.getLsbD n = false) ∧
    s.levelOutputs thePart = [0, 1, 2, 3, 4, 5, 8, 9, 10].map w.getLsbD) ∧
  (∀ (v : Word) (s : State), exec (.wrStatus v) s = .next { s with
    errCfg := if v.getLsbD 8 then false else s.errCfg
    errSeq := if v.getLsbD 9 then false else s.errSeq
    errBus := if v.getLsbD 10 then false else s.errBus })

/-- R30, R61, R243: a read of the reserved offset, or of an unmapped or misaligned one, raises ERR_BUS, answers 0 and changes
nothing else. -/
def Obligations.RefusedReadsRaiseBusError : Prop :=
  ∀ (o : Offset) (s : State),
    exec .rdReserved3C s = .next { s with errBus := true, reply := .word 0 } ∧
    exec (.rdUnmapped40To7F o) s = .next { s with errBus := true, reply := .word 0 } ∧
    exec (.rdUnmapped80ToFF o) s = .next { s with errBus := true, reply := .word 0 } ∧
    exec (.rdMisaligned1 o) s = .next { s with errBus := true, reply := .word 0 } ∧
    exec (.rdMisaligned2 o) s = .next { s with errBus := true, reply := .word 0 } ∧
    exec (.rdMisaligned3 o) s = .next { s with errBus := true, reply := .word 0 }

/-! ### Ports and reset -/

/-- R212: a PUSH is enabled iff a stage exists and `inq` has room; an enabled one appends its sample and changes nothing else;
one that is not enabled changes nothing. It is stated for every pair of words: that a word which is no finite pattern is
taken all the same is the model's choice (U1, log entry 4). -/
def Obligations.PushAppendsOrWaits : Prop :=
  ∀ (re im : Word) (s : State),
    decode (.transfer (0#1 ++ re ++ im)) = .ok (.push re im) ∧
    (s.holds thePart (.push re im) = false ↔ s.st = .idle ∧ s.inq.length < thePart.capIn) ∧
    (s.st = .idle → s.inq.length < thePart.capIn → exec (.push re im) s = .next { s with inq := s.inq ++ [⟨re, im⟩] }) ∧
    (¬(s.st = .idle ∧ s.inq.length < thePart.capIn) → exec (.push re im) s = .next s)

/-- R214: a POP is enabled iff `outq` is not empty, in either sequencer state; it returns the oldest sample of `outq`, removes
it, and changes nothing else; on an empty `outq` nothing changes. -/
def Obligations.PopReturnsTheOldestSample : Prop :=
  (∀ re im : Word, decode (.transfer (1#1 ++ re ++ im)) = .ok .pop) ∧
  ∀ s : State,
    (s.holds thePart .pop = false ↔ 0 < s.outq.length) ∧
    (∀ x rest, s.outq = x :: rest → exec .pop s = .next { s with outq := rest, reply := .sample x }) ∧
    (s.outq = [] → exec .pop s = .next s)

/-- R270: RESET, in any state, gives every piece of the block's state its value after reset. -/
def Obligations.ResetClearsTheBlock : Prop :=
  ∀ s : State, ∃ t, exec .reset s = .next t ∧ t.st = .unconf ∧
    t.ctrl = 0 ∧ t.cfgF = 0 ∧ t.cfgWnd = 0 ∧ t.cfgLat = 0 ∧ t.cfgThr = 0 ∧
    t.F = 0 ∧ t.O = 0 ∧ t.W = 0 ∧ t.L = 0 ∧ t.mode = .real ∧ t.auto = false ∧
    t.ratio = thePart.num.zero ∧ t.avg = thePart.num.zero ∧ t.errCfg = false ∧ t.errSeq = false ∧ t.errBus = false ∧ t.fin = [] ∧ t.carry = [] ∧ t.inq = [] ∧ t.outq = []

/-- Log entries 5, 6 and 7 (the model's choice): what the host still asks for, what it was answered last and the bookkeeping
of steps are not the block's, and RESET keeps them; of two states alike in these, RESET makes one. -/
def Obligations.ResetKeepsTheHostsSide : Prop :=
  (∀ s t : State, exec .reset s = .next t → t.host = s.host ∧ t.turn = s.turn ∧ t.tick = s.tick ∧ t.reply = s.reply) ∧
  (∀ s s' : State, s.host = s'.host → s.turn = s'.turn → s.tick = s'.tick → s.reply = s'.reply →
    exec .reset s = exec .reset s')

/-- R272: after a RESET no AUTOSTEP is enabled, PUSH and POP wait, every register reads 0, and of the command words 0 does
nothing, 1 does not raise ERR_SEQ, and every other one raises it and does nothing else. -/
def Obligations.InertAfterReset : Prop :=
  ∀ s t : State, exec .reset s = .next t →
    t.autoEnabled thePart = false ∧ (∀ re im, t.holds thePart (.push re im) = true) ∧ t.holds thePart .pop = true ∧
    (∀ r : Reg, t.reg thePart r = 0) ∧
    exec .nop t = .next t ∧ (∃ u, exec .init t = .next u ∧ u.errSeq = false ∧ u ≠ t) ∧
    (∀ w : Word, 1 < w.toNat → ∃ i, decode (commandWrite w) = .ok i ∧ exec i t = .next { t with errSeq := true })

/-! ### What no operation breaks -/

/-- R138: the sequencer state changes in three ways and no other: reset sets UNCONF, an INIT that succeeds moves UNCONF to
IDLE, STOP moves IDLE to UNCONF. -/
def Obligations.LifecycleChangesInThreeWays : Prop :=
  (∀ (i : Instr) (s t : State), exec i s = .next t → t.st ≠ s.st →
    (i = .reset ∧ t.st = .unconf) ∨ (i = .init ∧ s.st = .unconf ∧ t.st = .idle) ∨
    (i = .stop ∧ s.st = .idle ∧ t.st = .unconf)) ∧
  (∀ s t : State, exec .reset s = .next t → t.st = .unconf) ∧
  (∀ s t : State, s.st = .unconf → exec .init s = .next t → t = { s with errCfg := true } ∨ t.st = .idle) ∧
  (∀ s t : State, s.st = .idle → exec .stop s = .next t → t.st = .unconf)

/-- R22, R23, R72: the effective parameters change at INIT and reset only, `ratio` at INIT, SETTHR and reset only, `avg` at
INIT, reset and block steps only. -/
def Obligations.ParametersChangeOnlyAtInit : Prop :=
  ∀ (i : Instr) (s t : State), exec i s = .next t → i ≠ .init → i ≠ .reset →
    (t.F = s.F ∧ t.O = s.O ∧ t.W = s.W ∧ t.L = s.L ∧ t.mode = s.mode ∧ t.auto = s.auto) ∧
    (i ≠ .setthr → t.ratio = s.ratio) ∧
    (i ≠ .proc → i ≠ .flush → i ≠ .autostep → t.avg = s.avg ∧ t.fin = s.fin ∧ t.carry = s.carry)

/-- R69: only PUSH appends to `inq`; only block steps, STOP and reset remove from it; only block steps append to `outq`; only
POP and reset remove from it; a PUSH on a full `inq` overwrites nothing. -/
def Obligations.FifoEndsHaveOneOwner : Prop :=
  (∀ (i : Instr) (s t : State), exec i s = .next t →
    ((∀ re im, i ≠ .push re im) → t.inq <:+ s.inq) ∧
    (i ∉ [Instr.proc, .flush, .autostep, .stop, .reset] → s.inq <+: t.inq) ∧
    (i ∉ [Instr.proc, .flush, .autostep] → t.outq <:+ s.outq) ∧
    (i ∉ [Instr.pop, .reset] → s.outq <+: t.outq)) ∧
  (∀ (re im : Word) (s : State), s.inq.length = thePart.capIn → exec (.push re im) s = .next s)

/-- R68, R151: a block step takes samples from the head of `inq` and appends as many to the tail of `outq`. -/
def Obligations.BlocksEmitAsManyAsTheyTake : Prop :=
  ∀ (i : Instr) (s t : State), i ∈ [Instr.proc, .flush, .autostep] → exec i s = .next t →
    ∃ taken emitted, s.inq = taken ++ t.inq ∧ t.outq = s.outq ++ emitted ∧ emitted.length = taken.length

/-- R26, R249: a flag that is set stays set until it is acknowledged or the block is reset; R247: an operation raises at most
one event. -/
def Obligations.FlagsAreStickyAndRaisedOneAtATime : Prop :=
  ∀ (i : Instr) (s t : State), exec i s = .next t →
    ((∀ v, i ≠ .wrStatus v) → i ≠ .reset → ∀ e, s.flag e = true → t.flag e = true) ∧
    (∀ e e', s.flag e = false → t.flag e = true → s.flag e' = false → t.flag e' = true → e = e')

/-- R26, R248: the flags are read by nothing inside the block: on two states that differ in flags alone, every operation but
a read of STATUS gives states that differ in flags alone. -/
def Obligations.FlagsAreReadByNothing : Prop :=
  ∀ (i : Instr) (s s' t t' : State), i ≠ .rdStatus → s.sameButFlags s' → exec i s = .next t → exec i s' = .next t' →
    t.sameButFlags t'

/-- R21, R72, R280: staging is not live: on two states that differ in staging registers alone, every operation but INIT,
SETTHR and the reads of those registers gives states that differ in staging registers alone. -/
def Obligations.StagingIsNotLive : Prop :=
  ∀ (i : Instr) (s s' t t' : State),
    i ∉ [Instr.init, .setthr, .rdCtrl, .rdCfgF, .rdCfgWnd, .rdCfgLat, .rdCfgThr] →
    s.sameButStaging s' → exec i s = .next t → exec i s' = .next t' → t.sameButStaging t'

/-- R218: `canProcess` changes only by a PUSH, a POP, a block step, INIT, STOP or reset, and once true it stays true until a
block step, STOP or reset. -/
def Obligations.CanProcessStaysUntilABlock : Prop :=
  ∀ (i : Instr) (s t : State), exec i s = .next t → t.canProcess thePart ≠ s.canProcess thePart →
    ((∃ re im, i = .push re im) ∨ i ∈ [Instr.pop, .proc, .flush, .autostep, .init, .stop, .reset]) ∧
    (s.canProcess thePart = true → i ∈ [Instr.proc, .flush, .autostep, .stop, .reset])

/-! ### The block step -/

/-- R152, R104: `fin[0 .. n-1]` takes the values of the `n` samples (a REAL sample's `im` is ignored), the other positions
keep theirs. For words that are finite patterns; the value of another word is free (log entry 4). In the machine of any
part. -/
def Obligations.LoadWritesTheSamplesTaken : Prop :=
  ∀ (S : Type) (P : Params S) (s : State S) (n j : Nat), n ≤ s.inq.length →
    (∀ x a b, j < n → s.inq[j]? = some x → dec32 P.num x.re = some a →
      (s.mode = .real → (s.loaded P n)[j]? = some ⟨a, P.num.zero⟩) ∧
      (s.mode = .complex → dec32 P.num x.im = some b → (s.loaded P n)[j]? = some ⟨a, b⟩)) ∧
    (n ≤ j → (s.loaded P n)[j]? = s.fin[j]?)

/-- R181, R182, R184, R186: the new average moves toward the power without the largest bin, halfway when it rises and by a
part in `L` otherwise; bin `i` is open iff its level is strictly above the new average times the ratio. The one-pole form of
the average is the spec's general knowledge and own choice (D27, U16; log entry 16). -/
def Obligations.ComparatorsFollowTheRules : Prop :=
  ∀ (S : Type) (N : Numerics S) (L : Nat) (ratio avg : S) (bins : List (Cplx S)) (lv : List S) (pow avg' : S),
    lv = bins.map (fun z => N.add (N.mul z.re z.re) (N.mul z.im z.im)) → pow = N.sub (N.sumF lv) (N.maxF lv) →
    avg' = (if N.gt pow avg then N.add avg (N.div (N.sub pow avg) (N.ofNat 2))
      else N.add avg (N.div (N.sub pow avg) (N.ofNat L))) →
    newAverage N L avg bins = avg' ∧
    ∀ (i : Nat) (l : S), lv[i]? = some l → (openMarks N L ratio avg bins)[i]? = some (N.gt l (N.mul avg' ratio))

/-- R188: the window of bin `i` is the `2W` distinct bins `(i + d) mod F`, `d` from `-W` to `W - 1`; its count is how many of
them are open, at most `2W`. -/
def Obligations.WindowCountsOpenBinsAround : Prop :=
  ∀ (F W : Nat) (g : List Bool) (i : Nat), 2 * W ≤ F → i < F →
    (∀ d e : ℤ, -(W : ℤ) ≤ d → d < W → -(W : ℤ) ≤ e → e < W → ((i : ℤ) + d) % F = ((i : ℤ) + e) % F → d = e) ∧
    ∃ c, (counts F W g)[i]? = some c ∧ c ≤ 2 * W ∧
      c = ((Finset.Ico (-(W : ℤ)) W).filter (fun d => g.getD (((i : ℤ) + d) % F).toNat false = true)).card

/-- R189: a count that starts as the sum of bin 0's window, and from bin `i` to bin `i + 1` adds the mark of bin
`(i + W) mod F` and subtracts that of bin `(i - W) mod F`, is the count of R188 at every bin and never leaves `0 .. 2W`;
`slidingCount` is that count. -/
def Obligations.SlidingCountIsTheWindowCount : Prop :=
  ∀ (F W : Nat) (g : List Bool), 2 * W ≤ F →
    (∀ c : Nat → ℤ,
      c 0 = ∑ d ∈ Finset.Ico (-(W : ℤ)) W, (mark g (d % F).toNat : ℤ) →
      (∀ i, i + 1 < F → c (i + 1) = c i + mark g ((i + W) % F) - mark g (((i : ℤ) - W) % F).toNat) →
      ∀ i, i < F → c i = windowCount F W g i ∧ 0 ≤ c i ∧ c i ≤ 2 * W) ∧
    ∀ i, i < F → slidingCount F W g i = windowCount F W g i

/-- R190: a bin whose count is 0 is zeroed outright; another is scaled by `sqrt(count / 2W)`. -/
def Obligations.GainMaskScalesEachBin : Prop :=
  ∀ (S : Type) (N : Numerics S) (F W L : Nat) (ratio avg : S) (bins : List (Cplx S)) (i : Nat) (z : Cplx S) (c : Nat),
    bins.length = F → bins[i]? = some z → c = windowCount F W (openMarks N L ratio avg bins) i →
    (c = 0 → (gateBins N F W L ratio avg bins)[i]? = some ⟨N.zero, N.zero⟩) ∧
    (c ≠ 0 → (gateBins N F W L ratio avg bins)[i]? = some
      ⟨N.mul z.re (N.sqrt (N.div (N.ofNat c) (N.ofNat (2 * W)))),
        N.mul z.im (N.sqrt (N.div (N.ofNat c) (N.ofNat (2 * W))))⟩)

/-- R157: the crossfade of the first `O` reconstructed samples with the carry, the new carry from the last `O`, and, in the
reference instance, `head[0] = carry[0]`. -/
def Obligations.CrossfadeAndTail : Prop :=
  (∀ (S : Type) (N : Numerics S) (F O : Nat) (rec carry : List (Cplx S)), rec.length = F → O ≤ F →
    (∀ i x y a, i < O → rec[i]? = some x → carry[i]? = some y → a = N.div (N.ofNat i) (N.ofNat O) →
      (crossfade N O rec carry)[i]? = some
        ⟨N.add (N.mul x.re a) (N.mul y.re (N.sub (N.ofNat 1) a)),
          N.add (N.mul x.im a) (N.mul y.im (N.sub (N.ofNat 1) a))⟩) ∧
    (∀ j, j < O → (newCarry N F O rec)[j]? = rec[F - O + j]?)) ∧
  (∀ (O : Nat) (rec carry : List (Cplx ℝ)) (x : Cplx ℝ), 1 ≤ O → carry[0]? = some x →
    (crossfade numR O rec carry)[0]? = some x)

/-- R158: the first `n` samples are emitted, crossfaded ones below `O` and reconstructed ones from there; a REAL sample drops
the imaginary part, a COMPLEX one keeps it. They are appended to `outq` in index order. -/
def Obligations.EmissionConvertsToTheSampleKind : Prop :=
  (∀ (S : Type) (N : Numerics S) (O n i : Nat) (rec carry : List (Cplx S)) (z : Cplx S), i < n →
    (i < O → (crossfade N O rec carry)[i]? = some z) → (O ≤ i → rec[i]? = some z) →
    (blockOut N O n .real rec carry)[i]? = some ⟨N.enc32 z.re, 0⟩ ∧
    (blockOut N O n .complex rec carry)[i]? = some ⟨N.enc32 z.re, N.enc32 z.im⟩) ∧
  (∀ (S : Type) (P : Params S) (s : State S) (n i : Nat), i < n →
    (s.runBlock P n).outq.take s.outq.length = s.outq ∧ (s.runBlock P n).outq.length = s.outq.length + n ∧
    (s.runBlock P n).outq[s.outq.length + i]? = (blockOut P.num s.O n s.mode (s.blockRec P n) s.carry)[i]?)

/-- R160 (a), R8: a full block of zero samples on a stage whose carry is zero emits zero words only and leaves a zero carry,
in the machine of every part that keeps R8. That the zero words are `0x00000000` rests on R8 being followed where U13 would
let a part show either zero pattern (log entry 3). -/
def Obligations.SilenceStaysSilent : Prop :=
  ∀ (S : Type) (P : Params S) (s t : State S), PartOk P → s.Inv P → s.canProcess P = true → (∀ z ∈ s.carry, z = P.num.czero) →
    (∀ x ∈ s.inq.take (s.F - s.O), x.re = 0 ∧ (s.mode = .complex → x.im = 0)) → execOf P .proc s = .next t →
    t.outq = s.outq ++ List.replicate (s.F - s.O) ⟨0, 0⟩ ∧ t.carry = List.replicate s.O P.num.czero

/-- R160 (c), R190: where every bin is closed, the reconstruction and the new carry are zero and the output is the faded old
carry, then zeros, in the machine of every part that keeps R8 (followed where U13 would let a part show either zero
pattern, log entry 3). -/
def Obligations.ClosedGateEmitsTheFadedCarry : Prop :=
  ∀ (S : Type) (P : Params S) (s : State S) (n : Nat), PartOk P → s.Inv P → s.st = .idle → n ≤ s.F - s.O → n ≤ s.inq.length →
    (∀ m ∈ openMarks P.num s.L s.ratio s.avg (forward P.num (s.loaded P n)), m = false) →
    (s.runBlock P n).carry = List.replicate s.O P.num.czero ∧
    ∀ i, i < n → (s.runBlock P n).outq[s.outq.length + i]? = some (outWords P.num s.mode
      (if i < s.O then
        cscale P.num (elem P.num s.carry i) (P.num.sub (P.num.ofNat 1) (P.num.div (P.num.ofNat i) (P.num.ofNat s.O)))
      else P.num.czero))

/-! ### The numerics record and its reference instance -/

/-- R6, R8 as the model imposes them (log entry 3: `lawfulPart`, and R8 followed where U13 allows two zero patterns): the open
part of `exec` is one that R6 and R8 admit, whatever its arithmetic is; and imposing the laws on a part that keeps them
changes no entry on the operands the rules use. -/
def Obligations.EveryPartKeepsTheZeroLaws : Prop :=
  PartOk thePart ∧ (∀ (S : Type) [DecidableEq S] (P : Params S), PartOk (lawfulPart P)) ∧
  (∀ (S : Type) [DecidableEq S] (N : Numerics S), N.ZeroLaws →
    (lawful N).zero = N.zero ∧ (lawful N).one = N.one ∧ (lawful N).ofNat = N.ofNat ∧ (lawful N).add = N.add ∧
    (lawful N).sub = N.sub ∧ (lawful N).mul = N.mul ∧ (∀ x k, 1 ≤ k → (lawful N).div x (N.ofNat k) = N.div x (N.ofNat k)) ∧
    (lawful N).sqrt = N.sqrt ∧ (lawful N).gt = N.gt ∧ (lawful N).sumF = N.sumF ∧ (lawful N).maxF = N.maxF ∧
    (lawful N).db2ratio = N.db2ratio ∧ (lawful N).decFinite = N.decFinite ∧ (lawful N).enc32 = N.enc32 ∧
    (lawful N).fwd = N.fwd ∧ (lawful N).inv = N.inv)

/-- R6, R8, R9: the part with the reference instance and the sizes R6 suggests is one that R6 and R8 admit. -/
def Obligations.ReferenceKeepsTheZeroLaws : Prop := ∀ bad next, PartOk (referencePart bad next)

/-- R184 in the reference instance: the new average lies between the old one and the power, and never becomes negative; and
in the reference machine no step makes `avg` negative (R23). The one-pole form is log entry 16's. -/
def Obligations.AverageMovesTowardThePower : Prop :=
  (∀ (L : Nat) (avg : ℝ) (bins : List (Cplx ℝ)) (pow : ℝ), 1 ≤ L → 0 ≤ avg → pow = power numR (levels numR bins) →
    0 ≤ pow ∧ 0 ≤ newAverage numR L avg bins ∧
    min avg pow ≤ newAverage numR L avg bins ∧ newAverage numR L avg bins ≤ max avg pow) ∧
  (∀ (bad : Nat → Nat → Word → ℝ) (next : Nat → Agent) (s t : State ℝ), s.Inv (referencePart bad next) → 0 ≤ s.avg →
    stepOf (referencePart bad next) s = .next t → 0 ≤ t.avg)

/-- R187 in the reference instance: for a fixed spectrum and average, a larger ratio gives a threshold as large or larger,
opens no further bin, and no count and no gain grows. -/
def Obligations.RaisingTheThresholdOpensNoBin : Prop :=
  ∀ (F W L : Nat) (avg ratio ratio' : ℝ) (bins : List (Cplx ℝ)), 1 ≤ L → 0 ≤ avg → ratio ≤ ratio' →
    threshold numR (newAverage numR L avg bins) ratio ≤ threshold numR (newAverage numR L avg bins) ratio' ∧
    (∀ i : Nat, (openMarks numR L ratio' avg bins)[i]? = some true → (openMarks numR L ratio avg bins)[i]? = some true) ∧
    ∀ i, ∀ c c' : Nat, c = windowCount F W (openMarks numR L ratio avg bins) i →
      c' = windowCount F W (openMarks numR L ratio' avg bins) i →
      c' ≤ c ∧ (if c' = 0 then 0 else gain numR W c') ≤ (if c = 0 then 0 else gain numR W c)

/-- R123 in the reference instance: the ratio of a threshold is `10^(dB/20)`, positive and strictly increasing in dB; 0 dB
gives 1, -40 dB gives 0.01 and 20 dB gives 10. -/
def Obligations.RatioIncreasesWithTheThreshold : Prop :=
  (∀ d : ℝ, numR.db2ratio d = (10 : ℝ) ^ (d / 20) ∧ 0 < numR.db2ratio d) ∧
  (∀ d e : ℝ, d < e → numR.db2ratio d < numR.db2ratio e) ∧
  numR.db2ratio 0 = 1 ∧ numR.db2ratio (-40) = 1 / 100 ∧ numR.db2ratio 20 = 10

/-- R156: element `m` of the reconstruction is element `m` of the inverse transform divided by `F`; in the reference instance
the inverse transform is the sum over `k` of `bins[k] * exp(+2*pi*i*k*m/F)`, and if every gain is 1 the reconstruction is the
transform input exactly. The sign of the exponent is log entry 16's. -/
def Obligations.OpenGateReconstructsTheInput : Prop :=
  (∀ (S : Type) (N : Numerics S) (F m : Nat) (bins : List (Cplx S)), bins.length = F → m < F →
    (reconstruct N F bins)[m]? = some ⟨N.div (N.inv bins m).re (N.ofNat F), N.div (N.inv bins m).im (N.ofNat F)⟩) ∧
  (∀ (bins : List (Cplx ℝ)) (m : Nat), toComplex (numR.inv bins m) =
    ∑ k ∈ Finset.range bins.length,
      toComplex (bins.getD k ⟨0, 0⟩) * Complex.exp (2 * Real.pi * Complex.I * k * m / bins.length)) ∧
  (∀ (F W L : Nat) (ratio avg : ℝ) (fin : List (Cplx ℝ)), fin.length = F → 1 ≤ F → 1 ≤ W →
    (∀ i, i < F → windowCount F W (openMarks numR L ratio avg (forward numR fin)) i = 2 * W) →
    blockRec numR F W L ratio avg fin = fin)

/-- R9, R12 in the reference instance: `enc32` of the value of a finite pattern is that pattern, but for negative zero, whose
value encodes as `0x00000000` (U13, log entry 10). -/
def Obligations.EncodingAFiniteValueIsExact : Prop :=
  ∀ w : Word, isFinite32 w = true → w ≠ 0x80000000 → numR.enc32 (numR.decFinite w) = w

/-! ### Outside the block -/

/-- R63, R64: reading back the bytes of a sample stream gives the samples (a REAL sample's `im` as 0), whatever partial sample
follows. -/
def Obligations.SerialisedSamplesReadBack : Prop :=
  ∀ (o : ByteOrder) (xs : List Sample) (extra : List (BitVec 8)),
    (extra.length < 4 → samplesOfBytes o .real (xs.flatMap (sampleBytes o .real) ++ extra) = xs.map fun x => ⟨x.re, 0⟩) ∧
    (extra.length < 8 → samplesOfBytes o .complex (xs.flatMap (sampleBytes o .complex) ++ extra) = xs)
end

