-- ==== Sys2Proof/Laws/State.lean ====
section
/-!
SUPPORT. What every update of the state leaves in every field: one lemma per field per update, so that no later proof
unfolds a record update.
-/

namespace Sys2Proof.Machine

variable {S : Type}

/-! ### `State.acknowledge` -/

@[simp] theorem State.acknowledge_st (s : State S) (v : Word) : (s.acknowledge v).st = s.st := rfl
@[simp] theorem State.acknowledge_ctrl (s : State S) (v : Word) : (s.acknowledge v).ctrl = s.ctrl := rfl
@[simp] theorem State.acknowledge_cfgF (s : State S) (v : Word) : (s.acknowledge v).cfgF = s.cfgF := rfl
@[simp] theorem State.acknowledge_cfgWnd (s : State S) (v : Word) : (s.acknowledge v).cfgWnd = s.cfgWnd := rfl
@[simp] theorem State.acknowledge_cfgLat (s : State S) (v : Word) : (s.acknowledge v).cfgLat = s.cfgLat := rfl
@[simp] theorem State.acknowledge_cfgThr (s : State S) (v : Word) : (s.acknowledge v).cfgThr = s.cfgThr := rfl
@[simp] theorem State.acknowledge_F (s : State S) (v : Word) : (s.acknowledge v).F = s.F := rfl
@[simp] theorem State.acknowledge_O (s : State S) (v : Word) : (s.acknowledge v).O = s.O := rfl
@[simp] theorem State.acknowledge_W (s : State S) (v : Word) : (s.acknowledge v).W = s.W := rfl
@[simp] theorem State.acknowledge_L (s : State S) (v : Word) : (s.acknowledge v).L = s.L := rfl
@[simp] theorem State.acknowledge_mode (s : State S) (v : Word) : (s.acknowledge v).mode = s.mode := rfl
@[simp] theorem State.acknowledge_auto (s : State S) (v : Word) : (s.acknowledge v).auto = s.auto := rfl
@[simp] theorem State.acknowledge_ratio (s : State S) (v : Word) : (s.acknowledge v).ratio = s.ratio := rfl
@[simp] theorem State.acknowledge_avg (s : State S) (v : Word) : (s.acknowledge v).avg = s.avg := rfl
@[simp] theorem State.acknowledge_errCfg (s : State S) (v : Word) : (s.acknowledge v).errCfg = (s.errCfg && !v.getLsbD (eventBit .cfg)) := rfl
@[simp] theorem State.acknowledge_errSeq (s : State S) (v : Word) : (s.acknowledge v).errSeq = (s.errSeq && !v.getLsbD (eventBit .seq)) := rfl
@[simp] theorem State.acknowledge_errBus (s : State S) (v : Word) : (s.acknowledge v).errBus = (s.errBus && !v.getLsbD (eventBit .bus)) := rfl
@[simp] theorem State.acknowledge_fin (s : State S) (v : Word) : (s.acknowledge v).fin = s.fin := rfl
@[simp] theorem State.acknowledge_carry (s : State S) (v : Word) : (s.acknowledge v).carry = s.carry := rfl
@[simp] theorem State.acknowledge_inq (s : State S) (v : Word) : (s.acknowledge v).inq = s.inq := rfl
@[simp] theorem State.acknowledge_outq (s : State S) (v : Word) : (s.acknowledge v).outq = s.outq := rfl
@[simp] theorem State.acknowledge_host (s : State S) (v : Word) : (s.acknowledge v).host = s.host := rfl
@[simp] theorem State.acknowledge_turn (s : State S) (v : Word) : (s.acknowledge v).turn = s.turn := rfl
@[simp] theorem State.acknowledge_tick (s : State S) (v : Word) : (s.acknowledge v).tick = s.tick := rfl
@[simp] theorem State.acknowledge_reply (s : State S) (v : Word) : (s.acknowledge v).reply = s.reply := rfl

/-! ### `State.answer` -/

@[simp] theorem State.answer_st (s : State S) (r : Reply) : (s.answer r).st = s.st := rfl
@[simp] theorem State.answer_ctrl (s : State S) (r : Reply) : (s.answer r).ctrl = s.ctrl := rfl
@[simp] theorem State.answer_cfgF (s : State S) (r : Reply) : (s.answer r).cfgF = s.cfgF := rfl
@[simp] theorem State.answer_cfgWnd (s : State S) (r : Reply) : (s.answer r).cfgWnd = s.cfgWnd := rfl
@[simp] theorem State.answer_cfgLat (s : State S) (r : Reply) : (s.answer r).cfgLat = s.cfgLat := rfl
@[simp] theorem State.answer_cfgThr (s : State S) (r : Reply) : (s.answer r).cfgThr = s.cfgThr := rfl
@[simp] theorem State.answer_F (s : State S) (r : Reply) : (s.answer r).F = s.F := rfl
@[simp] theorem State.answer_O (s : State S) (r : Reply) : (s.answer r).O = s.O := rfl
@[simp] theorem State.answer_W (s : State S) (r : Reply) : (s.answer r).W = s.W := rfl
@[simp] theorem State.answer_L (s : State S) (r : Reply) : (s.answer r).L = s.L := rfl
@[simp] theorem State.answer_mode (s : State S) (r : Reply) : (s.answer r).mode = s.mode := rfl
@[simp] theorem State.answer_auto (s : State S) (r : Reply) : (s.answer r).auto = s.auto := rfl
@[simp] theorem State.answer_ratio (s : State S) (r : Reply) : (s.answer r).ratio = s.ratio := rfl
@[simp] theorem State.answer_avg (s : State S) (r : Reply) : (s.answer r).avg = s.avg := rfl
@[simp] theorem State.answer_errCfg (s : State S) (r : Reply) : (s.answer r).errCfg = s.errCfg := rfl
@[simp] theorem State.answer_errSeq (s : State S) (r : Reply) : (s.answer r).errSeq = s.errSeq := rfl
@[simp] theorem State.answer_errBus (s : State S) (r : Reply) : (s.answer r).errBus = s.errBus := rfl
@[simp] theorem State.answer_fin (s : State S) (r : Reply) : (s.answer r).fin = s.fin := rfl
@[simp] theorem State.answer_carry (s : State S) (r : Reply) : (s.answer r).carry = s.carry := rfl
@[simp] theorem State.answer_inq (s : State S) (r : Reply) : (s.answer r).inq = s.inq := rfl
@[simp] theorem State.answer_outq (s : State S) (r : Reply) : (s.answer r).outq = s.outq := rfl
@[simp] theorem State.answer_host (s : State S) (r : Reply) : (s.answer r).host = s.host := rfl
@[simp] theorem State.answer_turn (s : State S) (r : Reply) : (s.answer r).turn = s.turn := rfl
@[simp] theorem State.answer_tick (s : State S) (r : Reply) : (s.answer r).tick = s.tick := rfl
@[simp] theorem State.answer_reply (s : State S) (r : Reply) : (s.answer r).reply = r := rfl

/-! ### `State.setCtrl` -/

@[simp] theorem State.setCtrl_st (s : State S) (v : Word) : (s.setCtrl v).st = s.st := rfl
@[simp] theorem State.setCtrl_ctrl (s : State S) (v : Word) : (s.setCtrl v).ctrl = v.setWidth 2 := rfl
@[simp] theorem State.setCtrl_cfgF (s : State S) (v : Word) : (s.setCtrl v).cfgF = s.cfgF := rfl
@[simp] theorem State.setCtrl_cfgWnd (s : State S) (v : Word) : (s.setCtrl v).cfgWnd = s.cfgWnd := rfl
@[simp] theorem State.setCtrl_cfgLat (s : State S) (v : Word) : (s.setCtrl v).cfgLat = s.cfgLat := rfl
@[simp] theorem State.setCtrl_cfgThr (s : State S) (v : Word) : (s.setCtrl v).cfgThr = s.cfgThr := rfl
@[simp] theorem State.setCtrl_F (s : State S) (v : Word) : (s.setCtrl v).F = s.F := rfl
@[simp] theorem State.setCtrl_O (s : State S) (v : Word) : (s.setCtrl v).O = s.O := rfl
@[simp] theorem State.setCtrl_W (s : State S) (v : Word) : (s.setCtrl v).W = s.W := rfl
@[simp] theorem State.setCtrl_L (s : State S) (v : Word) : (s.setCtrl v).L = s.L := rfl
@[simp] theorem State.setCtrl_mode (s : State S) (v : Word) : (s.setCtrl v).mode = s.mode := rfl
@[simp] theorem State.setCtrl_auto (s : State S) (v : Word) : (s.setCtrl v).auto = s.auto := rfl
@[simp] theorem State.setCtrl_ratio (s : State S) (v : Word) : (s.setCtrl v).ratio = s.ratio := rfl
@[simp] theorem State.setCtrl_avg (s : State S) (v : Word) : (s.setCtrl v).avg = s.avg := rfl
@[simp] theorem State.setCtrl_errCfg (s : State S) (v : Word) : (s.setCtrl v).errCfg = s.errCfg := rfl
@[simp] theorem State.setCtrl_errSeq (s : State S) (v : Word) : (s.setCtrl v).errSeq = s.errSeq := rfl
@[simp] theorem State.setCtrl_errBus (s : State S) (v : Word) : (s.setCtrl v).errBus = s.errBus := rfl
@[simp] theorem State.setCtrl_fin (s : State S) (v : Word) : (s.setCtrl v).fin = s.fin := rfl
@[simp] theorem State.setCtrl_carry (s : State S) (v : Word) : (s.setCtrl v).carry = s.carry := rfl
@[simp] theorem State.setCtrl_inq (s : State S) (v : Word) : (s.setCtrl v).inq = s.inq := rfl
@[simp] theorem State.setCtrl_outq (s : State S) (v : Word) : (s.setCtrl v).outq = s.outq := rfl
@[simp] theorem State.setCtrl_host (s : State S) (v : Word) : (s.setCtrl v).host = s.host := rfl
@[simp] theorem State.setCtrl_turn (s : State S) (v : Word) : (s.setCtrl v).turn = s.turn := rfl
@[simp] theorem State.setCtrl_tick (s : State S) (v : Word) : (s.setCtrl v).tick = s.tick := rfl
@[simp] theorem State.setCtrl_reply (s : State S) (v : Word) : (s.setCtrl v).reply = s.reply := rfl

/-! ### `State.setCfgF` -/

@[simp] theorem State.setCfgF_st (s : State S) (v : Word) : (s.setCfgF v).st = s.st := rfl
@[simp] theorem State.setCfgF_ctrl (s : State S) (v : Word) : (s.setCfgF v).ctrl = s.ctrl := rfl
@[simp] theorem State.setCfgF_cfgF (s : State S) (v : Word) : (s.setCfgF v).cfgF = v := rfl
@[simp] theorem State.setCfgF_cfgWnd (s : State S) (v : Word) : (s.setCfgF v).cfgWnd = s.cfgWnd := rfl
@[simp] theorem State.setCfgF_cfgLat (s : State S) (v : Word) : (s.setCfgF v).cfgLat = s.cfgLat := rfl
@[simp] theorem State.setCfgF_cfgThr (s : State S) (v : Word) : (s.setCfgF v).cfgThr = s.cfgThr := rfl
@[simp] theorem State.setCfgF_F (s : State S) (v : Word) : (s.setCfgF v).F = s.F := rfl
@[simp] theorem State.setCfgF_O (s : State S) (v : Word) : (s.setCfgF v).O = s.O := rfl
@[simp] theorem State.setCfgF_W (s : State S) (v : Word) : (s.setCfgF v).W = s.W := rfl
@[simp] theorem State.setCfgF_L (s : State S) (v : Word) : (s.setCfgF v).L = s.L := rfl
@[simp] theorem State.setCfgF_mode (s : State S) (v : Word) : (s.setCfgF v).mode = s.mode := rfl
@[simp] theorem State.setCfgF_auto (s : State S) (v : Word) : (s.setCfgF v).auto = s.auto := rfl
@[simp] theorem State.setCfgF_ratio (s : State S) (v : Word) : (s.setCfgF v).ratio = s.ratio := rfl
@[simp] theorem State.setCfgF_avg (s : State S) (v : Word) : (s.setCfgF v).avg = s.avg := rfl
@[simp] theorem State.setCfgF_errCfg (s : State S) (v : Word) : (s.setCfgF v).errCfg = s.errCfg := rfl
@[simp] theorem State.setCfgF_errSeq (s : State S) (v : Word) : (s.setCfgF v).errSeq = s.errSeq := rfl
@[simp] theorem State.setCfgF_errBus (s : State S) (v : Word) : (s.setCfgF v).errBus = s.errBus := rfl
@[simp] theorem State.setCfgF_fin (s : State S) (v : Word) : (s.setCfgF v).fin = s.fin := rfl
@[simp] theorem State.setCfgF_carry (s : State S) (v : Word) : (s.setCfgF v).carry = s.carry := rfl
@[simp] theorem State.setCfgF_inq (s : State S) (v : Word) : (s.setCfgF v).inq = s.inq := rfl
@[simp] theorem State.setCfgF_outq (s : State S) (v : Word) : (s.setCfgF v).outq = s.outq := rfl
@[simp] theorem State.setCfgF_host (s : State S) (v : Word) : (s.setCfgF v).host = s.host := rfl
@[simp] theorem State.setCfgF_turn (s : State S) (v : Word) : (s.setCfgF v).turn = s.turn := rfl
@[simp] theorem State.setCfgF_tick (s : State S) (v : Word) : (s.setCfgF v).tick = s.tick := rfl
@[simp] theorem State.setCfgF_reply (s : State S) (v : Word) : (s.setCfgF v).reply = s.reply := rfl

/-! ### `State.setCfgWnd` -/

@[simp] theorem State.setCfgWnd_st (s : State S) (v : Word) : (s.setCfgWnd v).st = s.st := rfl
@[simp] theorem State.setCfgWnd_ctrl (s : State S) (v : Word) : (s.setCfgWnd v).ctrl = s.ctrl := rfl
@[simp] theorem State.setCfgWnd_cfgF (s : State S) (v : Word) : (s.setCfgWnd v).cfgF = s.cfgF := rfl
@[simp] theorem State.setCfgWnd_cfgWnd (s : State S) (v : Word) : (s.setCfgWnd v).cfgWnd = v := rfl
@[simp] theorem State.setCfgWnd_cfgLat (s : State S) (v : Word) : (s.setCfgWnd v).cfgLat = s.cfgLat := rfl
@[simp] theorem State.setCfgWnd_cfgThr (s : State S) (v : Word) : (s.setCfgWnd v).cfgThr = s.cfgThr := rfl
@[simp] theorem State.setCfgWnd_F (s : State S) (v : Word) : (s.setCfgWnd v).F = s.F := rfl
@[simp] theorem State.setCfgWnd_O (s : State S) (v : Word) : (s.setCfgWnd v).O = s.O := rfl
@[simp] theorem State.setCfgWnd_W (s : State S) (v : Word) : (s.setCfgWnd v).W = s.W := rfl
@[simp] theorem State.setCfgWnd_L (s : State S) (v : Word) : (s.setCfgWnd v).L = s.L := rfl
@[simp] theorem State.setCfgWnd_mode (s : State S) (v : Word) : (s.setCfgWnd v).mode = s.mode := rfl
@[simp] theorem State.setCfgWnd_auto (s : State S) (v : Word) : (s.setCfgWnd v).auto = s.auto := rfl
@[simp] theorem State.setCfgWnd_ratio (s : State S) (v : Word) : (s.setCfgWnd v).ratio = s.ratio := rfl
@[simp] theorem State.setCfgWnd_avg (s : State S) (v : Word) : (s.setCfgWnd v).avg = s.avg := rfl
@[simp] theorem State.setCfgWnd_errCfg (s : State S) (v : Word) : (s.setCfgWnd v).errCfg = s.errCfg := rfl
@[simp] theorem State.setCfgWnd_errSeq (s : State S) (v : Word) : (s.setCfgWnd v).errSeq = s.errSeq := rfl
@[simp] theorem State.setCfgWnd_errBus (s : State S) (v : Word) : (s.setCfgWnd v).errBus = s.errBus := rfl
@[simp] theorem State.setCfgWnd_fin (s : State S) (v : Word) : (s.setCfgWnd v).fin = s.fin := rfl
@[simp] theorem State.setCfgWnd_carry (s : State S) (v : Word) : (s.setCfgWnd v).carry = s.carry := rfl
@[simp] theorem State.setCfgWnd_inq (s : State S) (v : Word) : (s.setCfgWnd v).inq = s.inq := rfl
@[simp] theorem State.setCfgWnd_outq (s : State S) (v : Word) : (s.setCfgWnd v).outq = s.outq := rfl
@[simp] theorem State.setCfgWnd_host (s : State S) (v : Word) : (s.setCfgWnd v).host = s.host := rfl
@[simp] theorem State.setCfgWnd_turn (s : State S) (v : Word) : (s.setCfgWnd v).turn = s.turn := rfl
@[simp] theorem State.setCfgWnd_tick (s : State S) (v : Word) : (s.setCfgWnd v).tick = s.tick := rfl
@[simp] theorem State.setCfgWnd_reply (s : State S) (v : Word) : (s.setCfgWnd v).reply = s.reply := rfl

/-! ### `State.setCfgLat` -/

@[simp] theorem State.setCfgLat_st (s : State S) (v : Word) : (s.setCfgLat v).st = s.st := rfl
@[simp] theorem State.setCfgLat_ctrl (s : State S) (v : Word) : (s.setCfgLat v).ctrl = s.ctrl := rfl
@[simp] theorem State.setCfgLat_cfgF (s : State S) (v : Word) : (s.setCfgLat v).cfgF = s.cfgF := rfl
@[simp] theorem State.setCfgLat_cfgWnd (s : State S) (v : Word) : (s.setCfgLat v).cfgWnd = s.cfgWnd := rfl
@[simp] theorem State.setCfgLat_cfgLat (s : State S) (v : Word) : (s.setCfgLat v).cfgLat = v := rfl
@[simp] theorem State.setCfgLat_cfgThr (s : State S) (v : Word) : (s.setCfgLat v).cfgThr = s.cfgThr := rfl
@[simp] theorem State.setCfgLat_F (s : State S) (v : Word) : (s.setCfgLat v).F = s.F := rfl
@[simp] theorem State.setCfgLat_O (s : State S) (v : Word) : (s.setCfgLat v).O = s.O := rfl
@[simp] theorem State.setCfgLat_W (s : State S) (v : Word) : (s.setCfgLat v).W = s.W := rfl
@[simp] theorem State.setCfgLat_L (s : State S) (v : Word) : (s.setCfgLat v).L = s.L := rfl
@[simp] theorem State.setCfgLat_mode (s : State S) (v : Word) : (s.setCfgLat v).mode = s.mode := rfl
@[simp] theorem State.setCfgLat_auto (s : State S) (v : Word) : (s.setCfgLat v).auto = s.auto := rfl
@[simp] theorem State.setCfgLat_ratio (s : State S) (v : Word) : (s.setCfgLat v).ratio = s.ratio := rfl
@[simp] theorem State.setCfgLat_avg (s : State S) (v : Word) : (s.setCfgLat v).avg = s.avg := rfl
@[simp] theorem State.setCfgLat_errCfg (s : State S) (v : Word) : (s.setCfgLat v).errCfg = s.errCfg := rfl
@[simp] theorem State.setCfgLat_errSeq (s : State S) (v : Word) : (s.setCfgLat v).errSeq = s.errSeq := rfl
@[simp] theorem State.setCfgLat_errBus (s : State S) (v : Word) : (s.setCfgLat v).errBus = s.errBus := rfl
@[simp] theorem State.setCfgLat_fin (s : State S) (v : Word) : (s.setCfgLat v).fin = s.fin := rfl
@[simp] theorem State.setCfgLat_carry (s : State S) (v : Word) : (s.setCfgLat v).carry = s.carry := rfl
@[simp] theorem State.setCfgLat_inq (s : State S) (v : Word) : (s.setCfgLat v).inq = s.inq := rfl
@[simp] theorem State.setCfgLat_outq (s : State S) (v : Word) : (s.setCfgLat v).outq = s.outq := rfl
@[simp] theorem State.setCfgLat_host (s : State S) (v : Word) : (s.setCfgLat v).host = s.host := rfl
@[simp] theorem State.setCfgLat_turn (s : State S) (v : Word) : (s.setCfgLat v).turn = s.turn := rfl
@[simp] theorem State.setCfgLat_tick (s : State S) (v : Word) : (s.setCfgLat v).tick = s.tick := rfl
@[simp] theorem State.setCfgLat_reply (s : State S) (v : Word) : (s.setCfgLat v).reply = s.reply := rfl

/-! ### `State.setCfgThr` -/

@[simp] theorem State.setCfgThr_st (s : State S) (v : Word) : (s.setCfgThr v).st = s.st := rfl
@[simp] theorem State.setCfgThr_ctrl (s : State S) (v : Word) : (s.setCfgThr v).ctrl = s.ctrl := rfl
@[simp] theorem State.setCfgThr_cfgF (s : State S) (v : Word) : (s.setCfgThr v).cfgF = s.cfgF := rfl
@[simp] theorem State.setCfgThr_cfgWnd (s : State S) (v : Word) : (s.setCfgThr v).cfgWnd = s.cfgWnd := rfl
@[simp] theorem State.setCfgThr_cfgLat (s : State S) (v : Word) : (s.setCfgThr v).cfgLat = s.cfgLat := rfl
@[simp] theorem State.setCfgThr_cfgThr (s : State S) (v : Word) : (s.setCfgThr v).cfgThr = v := rfl
@[simp] theorem State.setCfgThr_F (s : State S) (v : Word) : (s.setCfgThr v).F = s.F := rfl
@[simp] theorem State.setCfgThr_O (s : State S) (v : Word) : (s.setCfgThr v).O = s.O := rfl
@[simp] theorem State.setCfgThr_W (s : State S) (v : Word) : (s.setCfgThr v).W = s.W := rfl
@[simp] theorem State.setCfgThr_L (s : State S) (v : Word) : (s.setCfgThr v).L = s.L := rfl
@[simp] theorem State.setCfgThr_mode (s : State S) (v : Word) : (s.setCfgThr v).mode = s.mode := rfl
@[simp] theorem State.setCfgThr_auto (s : State S) (v : Word) : (s.setCfgThr v).auto = s.auto := rfl
@[simp] theorem State.setCfgThr_ratio (s : State S) (v : Word) : (s.setCfgThr v).ratio = s.ratio := rfl
@[simp] theorem State.setCfgThr_avg (s : State S) (v : Word) : (s.setCfgThr v).avg = s.avg := rfl
@[simp] theorem State.setCfgThr_errCfg (s : State S) (v : Word) : (s.setCfgThr v).errCfg = s.errCfg := rfl
@[simp] theorem State.setCfgThr_errSeq (s : State S) (v : Word) : (s.setCfgThr v).errSeq = s.errSeq := rfl
@[simp] theorem State.setCfgThr_errBus (s : State S) (v : Word) : (s.setCfgThr v).errBus = s.errBus := rfl
@[simp] theorem State.setCfgThr_fin (s : State S) (v : Word) : (s.setCfgThr v).fin = s.fin := rfl
@[simp] theorem State.setCfgThr_carry (s : State S) (v : Word) : (s.setCfgThr v).carry = s.carry := rfl
@[simp] theorem State.setCfgThr_inq (s : State S) (v : Word) : (s.setCfgThr v).inq = s.inq := rfl
@[simp] theorem State.setCfgThr_outq (s : State S) (v : Word) : (s.setCfgThr v).outq = s.outq := rfl
@[simp] theorem State.setCfgThr_host (s : State S) (v : Word) : (s.setCfgThr v).host = s.host := rfl
@[simp] theorem State.setCfgThr_turn (s : State S) (v : Word) : (s.setCfgThr v).turn = s.turn := rfl
@[simp] theorem State.setCfgThr_tick (s : State S) (v : Word) : (s.setCfgThr v).tick = s.tick := rfl
@[simp] theorem State.setCfgThr_reply (s : State S) (v : Word) : (s.setCfgThr v).reply = s.reply := rfl

/-! ### `State.setRatio` -/

@[simp] theorem State.setRatio_st (s : State S) (r : S) : (s.setRatio r).st = s.st := rfl
@[simp] theorem State.setRatio_ctrl (s : State S) (r : S) : (s.setRatio r).ctrl = s.ctrl := rfl
@[simp] theorem State.setRatio_cfgF (s : State S) (r : S) : (s.setRatio r).cfgF = s.cfgF := rfl
@[simp] theorem State.setRatio_cfgWnd (s : State S) (r : S) : (s.setRatio r).cfgWnd = s.cfgWnd := rfl
@[simp] theorem State.setRatio_cfgLat (s : State S) (r : S) : (s.setRatio r).cfgLat = s.cfgLat := rfl
@[simp] theorem State.setRatio_cfgThr (s : State S) (r : S) : (s.setRatio r).cfgThr = s.cfgThr := rfl
@[simp] theorem State.setRatio_F (s : State S) (r : S) : (s.setRatio r).F = s.F := rfl
@[simp] theorem State.setRatio_O (s : State S) (r : S) : (s.setRatio r).O = s.O := rfl
@[simp] theorem State.setRatio_W (s : State S) (r : S) : (s.setRatio r).W = s.W := rfl
@[simp] theorem State.setRatio_L (s : State S) (r : S) : (s.setRatio r).L = s.L := rfl
@[simp] theorem State.setRatio_mode (s : State S) (r : S) : (s.setRatio r).mode = s.mode := rfl
@[simp] theorem State.setRatio_auto (s : State S) (r : S) : (s.setRatio r).auto = s.auto := rfl
@[simp] theorem State.setRatio_ratio (s : State S) (r : S) : (s.setRatio r).ratio = r := rfl
@[simp] theorem State.setRatio_avg (s : State S) (r : S) : (s.setRatio r).avg = s.avg := rfl
@[simp] theorem State.setRatio_errCfg (s : State S) (r : S) : (s.setRatio r).errCfg = s.errCfg := rfl
@[simp] theorem State.setRatio_errSeq (s : State S) (r : S) : (s.setRatio r).errSeq = s.errSeq := rfl
@[simp] theorem State.setRatio_errBus (s : State S) (r : S) : (s.setRatio r).errBus = s.errBus := rfl
@[simp] theorem State.setRatio_fin (s : State S) (r : S) : (s.setRatio r).fin = s.fin := rfl
@[simp] theorem State.setRatio_carry (s : State S) (r : S) : (s.setRatio r).carry = s.carry := rfl
@[simp] theorem State.setRatio_inq (s : State S) (r : S) : (s.setRatio r).inq = s.inq := rfl
@[simp] theorem State.setRatio_outq (s : State S) (r : S) : (s.setRatio r).outq = s.outq := rfl
@[simp] theorem State.setRatio_host (s : State S) (r : S) : (s.setRatio r).host = s.host := rfl
@[simp] theorem State.setRatio_turn (s : State S) (r : S) : (s.setRatio r).turn = s.turn := rfl
@[simp] theorem State.setRatio_tick (s : State S) (r : S) : (s.setRatio r).tick = s.tick := rfl
@[simp] theorem State.setRatio_reply (s : State S) (r : S) : (s.setRatio r).reply = s.reply := rfl

/-! ### `State.startStage` -/

@[simp] theorem State.startStage_st (P : Params S) (s : State S) (r : S) : (s.startStage P r).st = .idle := rfl
@[simp] theorem State.startStage_ctrl (P : Params S) (s : State S) (r : S) : (s.startStage P r).ctrl = s.ctrl := rfl
@[simp] theorem State.startStage_cfgF (P : Params S) (s : State S) (r : S) : (s.startStage P r).cfgF = s.cfgF := rfl
@[simp] theorem State.startStage_cfgWnd (P : Params S) (s : State S) (r : S) : (s.startStage P r).cfgWnd = s.cfgWnd := rfl
@[simp] theorem State.startStage_cfgLat (P : Params S) (s : State S) (r : S) : (s.startStage P r).cfgLat = s.cfgLat := rfl
@[simp] theorem State.startStage_cfgThr (P : Params S) (s : State S) (r : S) : (s.startStage P r).cfgThr = s.cfgThr := rfl
@[simp] theorem State.startStage_F (P : Params S) (s : State S) (r : S) : (s.startStage P r).F = deriveF s.cfgF := rfl
@[simp] theorem State.startStage_O (P : Params S) (s : State S) (r : S) : (s.startStage P r).O = deriveO s.cfgF := rfl
@[simp] theorem State.startStage_W (P : Params S) (s : State S) (r : S) : (s.startStage P r).W = deriveW s.cfgF s.cfgWnd := rfl
@[simp] theorem State.startStage_L (P : Params S) (s : State S) (r : S) : (s.startStage P r).L = deriveL s.cfgLat := rfl
@[simp] theorem State.startStage_mode (P : Params S) (s : State S) (r : S) : (s.startStage P r).mode = ctrlMode s.ctrl := rfl
@[simp] theorem State.startStage_auto (P : Params S) (s : State S) (r : S) : (s.startStage P r).auto = ctrlAuto s.ctrl := rfl
@[simp] theorem State.startStage_ratio (P : Params S) (s : State S) (r : S) : (s.startStage P r).ratio = r := rfl
@[simp] theorem State.startStage_avg (P : Params S) (s : State S) (r : S) : (s.startStage P r).avg = P.num.zero := rfl
@[simp] theorem State.startStage_errCfg (P : Params S) (s : State S) (r : S) : (s.startStage P r).errCfg = s.errCfg := rfl
@[simp] theorem State.startStage_errSeq (P : Params S) (s : State S) (r : S) : (s.startStage P r).errSeq = s.errSeq := rfl
@[simp] theorem State.startStage_errBus (P : Params S) (s : State S) (r : S) : (s.startStage P r).errBus = s.errBus := rfl
@[simp] theorem State.startStage_fin (P : Params S) (s : State S) (r : S) : (s.startStage P r).fin = List.replicate (deriveF s.cfgF) P.num.czero := rfl
@[simp] theorem State.startStage_carry (P : Params S) (s : State S) (r : S) : (s.startStage P r).carry = List.replicate (deriveO s.cfgF) P.num.czero := rfl
@[simp] theorem State.startStage_inq (P : Params S) (s : State S) (r : S) : (s.startStage P r).inq = s.inq := rfl
@[simp] theorem State.startStage_outq (P : Params S) (s : State S) (r : S) : (s.startStage P r).outq = s.outq := rfl
@[simp] theorem State.startStage_host (P : Params S) (s : State S) (r : S) : (s.startStage P r).host = s.host := rfl
@[simp] theorem State.startStage_turn (P : Params S) (s : State S) (r : S) : (s.startStage P r).turn = s.turn := rfl
@[simp] theorem State.startStage_tick (P : Params S) (s : State S) (r : S) : (s.startStage P r).tick = s.tick := rfl
@[simp] theorem State.startStage_reply (P : Params S) (s : State S) (r : S) : (s.startStage P r).reply = s.reply := rfl

/-! ### `State.stopStage` -/

@[simp] theorem State.stopStage_st (s : State S) : (s.stopStage).st = .unconf := rfl
@[simp] theorem State.stopStage_ctrl (s : State S) : (s.stopStage).ctrl = s.ctrl := rfl
@[simp] theorem State.stopStage_cfgF (s : State S) : (s.stopStage).cfgF = s.cfgF := rfl
@[simp] theorem State.stopStage_cfgWnd (s : State S) : (s.stopStage).cfgWnd = s.cfgWnd := rfl
@[simp] theorem State.stopStage_cfgLat (s : State S) : (s.stopStage).cfgLat = s.cfgLat := rfl
@[simp] theorem State.stopStage_cfgThr (s : State S) : (s.stopStage).cfgThr = s.cfgThr := rfl
@[simp] theorem State.stopStage_F (s : State S) : (s.stopStage).F = s.F := rfl
@[simp] theorem State.stopStage_O (s : State S) : (s.stopStage).O = s.O := rfl
@[simp] theorem State.stopStage_W (s : State S) : (s.stopStage).W = s.W := rfl
@[simp] theorem State.stopStage_L (s : State S) : (s.stopStage).L = s.L := rfl
@[simp] theorem State.stopStage_mode (s : State S) : (s.stopStage).mode = s.mode := rfl
@[simp] theorem State.stopStage_auto (s : State S) : (s.stopStage).auto = s.auto := rfl
@[simp] theorem State.stopStage_ratio (s : State S) : (s.stopStage).ratio = s.ratio := rfl
@[simp] theorem State.stopStage_avg (s : State S) : (s.stopStage).avg = s.avg := rfl
@[simp] theorem State.stopStage_errCfg (s : State S) : (s.stopStage).errCfg = s.errCfg := rfl
@[simp] theorem State.stopStage_errSeq (s : State S) : (s.stopStage).errSeq = s.errSeq := rfl
@[simp] theorem State.stopStage_errBus (s : State S) : (s.stopStage).errBus = s.errBus := rfl
@[simp] theorem State.stopStage_fin (s : State S) : (s.stopStage).fin = s.fin := rfl
@[simp] theorem State.stopStage_carry (s : State S) : (s.stopStage).carry = s.carry := rfl
@[simp] theorem State.stopStage_inq (s : State S) : (s.stopStage).inq = [] := rfl
@[simp] theorem State.stopStage_outq (s : State S) : (s.stopStage).outq = s.outq := rfl
@[simp] theorem State.stopStage_host (s : State S) : (s.stopStage).host = s.host := rfl
@[simp] theorem State.stopStage_turn (s : State S) : (s.stopStage).turn = s.turn := rfl
@[simp] theorem State.stopStage_tick (s : State S) : (s.stopStage).tick = s.tick := rfl
@[simp] theorem State.stopStage_reply (s : State S) : (s.stopStage).reply = s.reply := rfl

/-! ### `State.pushIn` -/

@[simp] theorem State.pushIn_st (s : State S) (x : Sample) : (s.pushIn x).st = s.st := rfl
@[simp] theorem State.pushIn_ctrl (s : State S) (x : Sample) : (s.pushIn x).ctrl = s.ctrl := rfl
@[simp] theorem State.pushIn_cfgF (s : State S) (x : Sample) : (s.pushIn x).cfgF = s.cfgF := rfl
@[simp] theorem State.pushIn_cfgWnd (s : State S) (x : Sample) : (s.pushIn x).cfgWnd = s.cfgWnd := rfl
@[simp] theorem State.pushIn_cfgLat (s : State S) (x : Sample) : (s.pushIn x).cfgLat = s.cfgLat := rfl
@[simp] theorem State.pushIn_cfgThr (s : State S) (x : Sample) : (s.pushIn x).cfgThr = s.cfgThr := rfl
@[simp] theorem State.pushIn_F (s : State S) (x : Sample) : (s.pushIn x).F = s.F := rfl
@[simp] theorem State.pushIn_O (s : State S) (x : Sample) : (s.pushIn x).O = s.O := rfl
@[simp] theorem State.pushIn_W (s : State S) (x : Sample) : (s.pushIn x).W = s.W := rfl
@[simp] theorem State.pushIn_L (s : State S) (x : Sample) : (s.pushIn x).L = s.L := rfl
@[simp] theorem State.pushIn_mode (s : State S) (x : Sample) : (s.pushIn x).mode = s.mode := rfl
@[simp] theorem State.pushIn_auto (s : State S) (x : Sample) : (s.pushIn x).auto = s.auto := rfl
@[simp] theorem State.pushIn_ratio (s : State S) (x : Sample) : (s.pushIn x).ratio = s.ratio := rfl
@[simp] theorem State.pushIn_avg (s : State S) (x : Sample) : (s.pushIn x).avg = s.avg := rfl
@[simp] theorem State.pushIn_errCfg (s : State S) (x : Sample) : (s.pushIn x).errCfg = s.errCfg := rfl
@[simp] theorem State.pushIn_errSeq (s : State S) (x : Sample) : (s.pushIn x).errSeq = s.errSeq := rfl
@[simp] theorem State.pushIn_errBus (s : State S) (x : Sample) : (s.pushIn x).errBus = s.errBus := rfl
@[simp] theorem State.pushIn_fin (s : State S) (x : Sample) : (s.pushIn x).fin = s.fin := rfl
@[simp] theorem State.pushIn_carry (s : State S) (x : Sample) : (s.pushIn x).carry = s.carry := rfl
@[simp] theorem State.pushIn_inq (s : State S) (x : Sample) : (s.pushIn x).inq = s.inq ++ [x] := rfl
@[simp] theorem State.pushIn_outq (s : State S) (x : Sample) : (s.pushIn x).outq = s.outq := rfl
@[simp] theorem State.pushIn_host (s : State S) (x : Sample) : (s.pushIn x).host = s.host := rfl
@[simp] theorem State.pushIn_turn (s : State S) (x : Sample) : (s.pushIn x).turn = s.turn := rfl
@[simp] theorem State.pushIn_tick (s : State S) (x : Sample) : (s.pushIn x).tick = s.tick := rfl
@[simp] theorem State.pushIn_reply (s : State S) (x : Sample) : (s.pushIn x).reply = s.reply := rfl

/-! ### `State.grant` -/

@[simp] theorem State.grant_st (P : Params S) (s : State S) (rest : List Request) : (s.grant P rest).st = s.st := rfl
@[simp] theorem State.grant_ctrl (P : Params S) (s : State S) (rest : List Request) : (s.grant P rest).ctrl = s.ctrl := rfl
@[simp] theorem State.grant_cfgF (P : Params S) (s : State S) (rest : List Request) : (s.grant P rest).cfgF = s.cfgF := rfl
@[simp] theorem State.grant_cfgWnd (P : Params S) (s : State S) (rest : List Request) : (s.grant P rest).cfgWnd = s.cfgWnd := rfl
@[simp] theorem State.grant_cfgLat (P : Params S) (s : State S) (rest : List Request) : (s.grant P rest).cfgLat = s.cfgLat := rfl
@[simp] theorem State.grant_cfgThr (P : Params S) (s : State S) (rest : List Request) : (s.grant P rest).cfgThr = s.cfgThr := rfl
@[simp] theorem State.grant_F (P : Params S) (s : State S) (rest : List Request) : (s.grant P rest).F = s.F := rfl
@[simp] theorem State.grant_O (P : Params S) (s : State S) (rest : List Request) : (s.grant P rest).O = s.O := rfl
@[simp] theorem State.grant_W (P : Params S) (s : State S) (rest : List Request) : (s.grant P rest).W = s.W := rfl
@[simp] theorem State.grant_L (P : Params S) (s : State S) (rest : List Request) : (s.grant P rest).L = s.L := rfl
@[simp] theorem State.grant_mode (P : Params S) (s : State S) (rest : List Request) : (s.grant P rest).mode = s.mode := rfl
@[simp] theorem State.grant_auto (P : Params S) (s : State S) (rest : List Request) : (s.grant P rest).auto = s.auto := rfl
@[simp] theorem State.grant_ratio (P : Params S) (s : State S) (rest : List Request) : (s.grant P rest).ratio = s.ratio := rfl
@[simp] theorem State.grant_avg (P : Params S) (s : State S) (rest : List Request) : (s.grant P rest).avg = s.avg := rfl
@[simp] theorem State.grant_errCfg (P : Params S) (s : State S) (rest : List Request) : (s.grant P rest).errCfg = s.errCfg := rfl
@[simp] theorem State.grant_errSeq (P : Params S) (s : State S) (rest : List Request) : (s.grant P rest).errSeq = s.errSeq := rfl
@[simp] theorem State.grant_errBus (P : Params S) (s : State S) (rest : List Request) : (s.grant P rest).errBus = s.errBus := rfl
@[simp] theorem State.grant_fin (P : Params S) (s : State S) (rest : List Request) : (s.grant P rest).fin = s.fin := rfl
@[simp] theorem State.grant_carry (P : Params S) (s : State S) (rest : List Request) : (s.grant P rest).carry = s.carry := rfl
@[simp] theorem State.grant_inq (P : Params S) (s : State S) (rest : List Request) : (s.grant P rest).inq = s.inq := rfl
@[simp] theorem State.grant_outq (P : Params S) (s : State S) (rest : List Request) : (s.grant P rest).outq = s.outq := rfl
@[simp] theorem State.grant_host (P : Params S) (s : State S) (rest : List Request) : (s.grant P rest).host = rest := rfl
@[simp] theorem State.grant_turn (P : Params S) (s : State S) (rest : List Request) : (s.grant P rest).turn = P.nextAgent s.tick := rfl
@[simp] theorem State.grant_tick (P : Params S) (s : State S) (rest : List Request) : (s.grant P rest).tick = s.tick + 1 := rfl
@[simp] theorem State.grant_reply (P : Params S) (s : State S) (rest : List Request) : (s.grant P rest).reply = s.reply := rfl

/-! ### `State.issueNow` -/

@[simp] theorem State.issueNow_st (s : State S) (r : Request) : (s.issueNow r).st = s.st := rfl
@[simp] theorem State.issueNow_ctrl (s : State S) (r : Request) : (s.issueNow r).ctrl = s.ctrl := rfl
@[simp] theorem State.issueNow_cfgF (s : State S) (r : Request) : (s.issueNow r).cfgF = s.cfgF := rfl
@[simp] theorem State.issueNow_cfgWnd (s : State S) (r : Request) : (s.issueNow r).cfgWnd = s.cfgWnd := rfl
@[simp] theorem State.issueNow_cfgLat (s : State S) (r : Request) : (s.issueNow r).cfgLat = s.cfgLat := rfl
@[simp] theorem State.issueNow_cfgThr (s : State S) (r : Request) : (s.issueNow r).cfgThr = s.cfgThr := rfl
@[simp] theorem State.issueNow_F (s : State S) (r : Request) : (s.issueNow r).F = s.F := rfl
@[simp] theorem State.issueNow_O (s : State S) (r : Request) : (s.issueNow r).O = s.O := rfl
@[simp] theorem State.issueNow_W (s : State S) (r : Request) : (s.issueNow r).W = s.W := rfl
@[simp] theorem State.issueNow_L (s : State S) (r : Request) : (s.issueNow r).L = s.L := rfl
@[simp] theorem State.issueNow_mode (s : State S) (r : Request) : (s.issueNow r).mode = s.mode := rfl
@[simp] theorem State.issueNow_auto (s : State S) (r : Request) : (s.issueNow r).auto = s.auto := rfl
@[simp] theorem State.issueNow_ratio (s : State S) (r : Request) : (s.issueNow r).ratio = s.ratio := rfl
@[simp] theorem State.issueNow_avg (s : State S) (r : Request) : (s.issueNow r).avg = s.avg := rfl
@[simp] theorem State.issueNow_errCfg (s : State S) (r : Request) : (s.issueNow r).errCfg = s.errCfg := rfl
@[simp] theorem State.issueNow_errSeq (s : State S) (r : Request) : (s.issueNow r).errSeq = s.errSeq := rfl
@[simp] theorem State.issueNow_errBus (s : State S) (r : Request) : (s.issueNow r).errBus = s.errBus := rfl
@[simp] theorem State.issueNow_fin (s : State S) (r : Request) : (s.issueNow r).fin = s.fin := rfl
@[simp] theorem State.issueNow_carry (s : State S) (r : Request) : (s.issueNow r).carry = s.carry := rfl
@[simp] theorem State.issueNow_inq (s : State S) (r : Request) : (s.issueNow r).inq = s.inq := rfl
@[simp] theorem State.issueNow_outq (s : State S) (r : Request) : (s.issueNow r).outq = s.outq := rfl
@[simp] theorem State.issueNow_host (s : State S) (r : Request) : (s.issueNow r).host = r :: s.host := rfl
@[simp] theorem State.issueNow_turn (s : State S) (r : Request) : (s.issueNow r).turn = .host := rfl
@[simp] theorem State.issueNow_tick (s : State S) (r : Request) : (s.issueNow r).tick = s.tick := rfl
@[simp] theorem State.issueNow_reply (s : State S) (r : Request) : (s.issueNow r).reply = s.reply := rfl

/-! ### `State.runBlock` -/

@[simp] theorem State.runBlock_st (P : Params S) (s : State S) (n : Nat) : (s.runBlock P n).st = s.st := rfl
@[simp] theorem State.runBlock_ctrl (P : Params S) (s : State S) (n : Nat) : (s.runBlock P n).ctrl = s.ctrl := rfl
@[simp] theorem State.runBlock_cfgF (P : Params S) (s : State S) (n : Nat) : (s.runBlock P n).cfgF = s.cfgF := rfl
@[simp] theorem State.runBlock_cfgWnd (P : Params S) (s : State S) (n : Nat) : (s.runBlock P n).cfgWnd = s.cfgWnd := rfl
@[simp] theorem State.runBlock_cfgLat (P : Params S) (s : State S) (n : Nat) : (s.runBlock P n).cfgLat = s.cfgLat := rfl
@[simp] theorem State.runBlock_cfgThr (P : Params S) (s : State S) (n : Nat) : (s.runBlock P n).cfgThr = s.cfgThr := rfl
@[simp] theorem State.runBlock_F (P : Params S) (s : State S) (n : Nat) : (s.runBlock P n).F = s.F := rfl
@[simp] theorem State.runBlock_O (P : Params S) (s : State S) (n : Nat) : (s.runBlock P n).O = s.O := rfl
@[simp] theorem State.runBlock_W (P : Params S) (s : State S) (n : Nat) : (s.runBlock P n).W = s.W := rfl
@[simp] theorem State.runBlock_L (P : Params S) (s : State S) (n : Nat) : (s.runBlock P n).L = s.L := rfl
@[simp] theorem State.runBlock_mode (P : Params S) (s : State S) (n : Nat) : (s.runBlock P n).mode = s.mode := rfl
@[simp] theorem State.runBlock_auto (P : Params S) (s : State S) (n : Nat) : (s.runBlock P n).auto = s.auto := rfl
@[simp] theorem State.runBlock_ratio (P : Params S) (s : State S) (n : Nat) : (s.runBlock P n).ratio = s.ratio := rfl
@[simp] theorem State.runBlock_avg (P : Params S) (s : State S) (n : Nat) : (s.runBlock P n).avg = newAverage P.num s.L s.avg (forward P.num (s.loaded P n)) := rfl
@[simp] theorem State.runBlock_errCfg (P : Params S) (s : State S) (n : Nat) : (s.runBlock P n).errCfg = s.errCfg := rfl
@[simp] theorem State.runBlock_errSeq (P : Params S) (s : State S) (n : Nat) : (s.runBlock P n).errSeq = s.errSeq := rfl
@[simp] theorem State.runBlock_errBus (P : Params S) (s : State S) (n : Nat) : (s.runBlock P n).errBus = s.errBus := rfl
@[simp] theorem State.runBlock_fin (P : Params S) (s : State S) (n : Nat) : (s.runBlock P n).fin = s.loaded P n := rfl
@[simp] theorem State.runBlock_carry (P : Params S) (s : State S) (n : Nat) : (s.runBlock P n).carry = newCarry P.num s.F s.O (s.blockRec P n) := rfl
@[simp] theorem State.runBlock_inq (P : Params S) (s : State S) (n : Nat) : (s.runBlock P n).inq = s.inq.drop n := rfl
@[simp] theorem State.runBlock_outq (P : Params S) (s : State S) (n : Nat) : (s.runBlock P n).outq = s.outq ++ blockOut P.num s.O n s.mode (s.blockRec P n) s.carry := rfl
@[simp] theorem State.runBlock_host (P : Params S) (s : State S) (n : Nat) : (s.runBlock P n).host = s.host := rfl
@[simp] theorem State.runBlock_turn (P : Params S) (s : State S) (n : Nat) : (s.runBlock P n).turn = s.turn := rfl
@[simp] theorem State.runBlock_tick (P : Params S) (s : State S) (n : Nat) : (s.runBlock P n).tick = s.tick := rfl
@[simp] theorem State.runBlock_reply (P : Params S) (s : State S) (n : Nat) : (s.runBlock P n).reply = s.reply := rfl

/-! ### `State.raise` -/

@[simp] theorem State.raise_st (s : State S) (e : Event) : (s.raise e).st = s.st := by cases e <;> rfl
@[simp] theorem State.raise_ctrl (s : State S) (e : Event) : (s.raise e).ctrl = s.ctrl := by cases e <;> rfl
@[simp] theorem State.raise_cfgF (s : State S) (e : Event) : (s.raise e).cfgF = s.cfgF := by cases e <;> rfl
@[simp] theorem State.raise_cfgWnd (s : State S) (e : Event) : (s.raise e).cfgWnd = s.cfgWnd := by cases e <;> rfl
@[simp] theorem State.raise_cfgLat (s : State S) (e : Event) : (s.raise e).cfgLat = s.cfgLat := by cases e <;> rfl
@[simp] theorem State.raise_cfgThr (s : State S) (e : Event) : (s.raise e).cfgThr = s.cfgThr := by cases e <;> rfl
@[simp] theorem State.raise_F (s : State S) (e : Event) : (s.raise e).F = s.F := by cases e <;> rfl
@[simp] theorem State.raise_O (s : State S) (e : Event) : (s.raise e).O = s.O := by cases e <;> rfl
@[simp] theorem State.raise_W (s : State S) (e : Event) : (s.raise e).W = s.W := by cases e <;> rfl
@[simp] theorem State.raise_L (s : State S) (e : Event) : (s.raise e).L = s.L := by cases e <;> rfl
@[simp] theorem State.raise_mode (s : State S) (e : Event) : (s.raise e).mode = s.mode := by cases e <;> rfl
@[simp] theorem State.raise_auto (s : State S) (e : Event) : (s.raise e).auto = s.auto := by cases e <;> rfl
@[simp] theorem State.raise_ratio (s : State S) (e : Event) : (s.raise e).ratio = s.ratio := by cases e <;> rfl
@[simp] theorem State.raise_avg (s : State S) (e : Event) : (s.raise e).avg = s.avg := by cases e <;> rfl
@[simp] theorem State.raise_errCfg (s : State S) (e : Event) : (s.raise e).errCfg = (s.errCfg || decide (e = .cfg)) := by
  cases e <;> simp [State.raise]
@[simp] theorem State.raise_errSeq (s : State S) (e : Event) : (s.raise e).errSeq = (s.errSeq || decide (e = .seq)) := by
  cases e <;> simp [State.raise]
@[simp] theorem State.raise_errBus (s : State S) (e : Event) : (s.raise e).errBus = (s.errBus || decide (e = .bus)) := by
  cases e <;> simp [State.raise]
@[simp] theorem State.raise_fin (s : State S) (e : Event) : (s.raise e).fin = s.fin := by cases e <;> rfl
@[simp] theorem State.raise_carry (s : State S) (e : Event) : (s.raise e).carry = s.carry := by cases e <;> rfl
@[simp] theorem State.raise_inq (s : State S) (e : Event) : (s.raise e).inq = s.inq := by cases e <;> rfl
@[simp] theorem State.raise_outq (s : State S) (e : Event) : (s.raise e).outq = s.outq := by cases e <;> rfl
@[simp] theorem State.raise_host (s : State S) (e : Event) : (s.raise e).host = s.host := by cases e <;> rfl
@[simp] theorem State.raise_turn (s : State S) (e : Event) : (s.raise e).turn = s.turn := by cases e <;> rfl
@[simp] theorem State.raise_tick (s : State S) (e : Event) : (s.raise e).tick = s.tick := by cases e <;> rfl
@[simp] theorem State.raise_reply (s : State S) (e : Event) : (s.raise e).reply = s.reply := by cases e <;> rfl

/-! ### `State.popOut` -/

@[simp] theorem State.popOut_st (s : State S) : s.popOut.st = s.st := by unfold State.popOut; cases s.outq <;> rfl
@[simp] theorem State.popOut_ctrl (s : State S) : s.popOut.ctrl = s.ctrl := by unfold State.popOut; cases s.outq <;> rfl
@[simp] theorem State.popOut_cfgF (s : State S) : s.popOut.cfgF = s.cfgF := by unfold State.popOut; cases s.outq <;> rfl
@[simp] theorem State.popOut_cfgWnd (s : State S) : s.popOut.cfgWnd = s.cfgWnd := by unfold State.popOut; cases s.outq <;> rfl
@[simp] theorem State.popOut_cfgLat (s : State S) : s.popOut.cfgLat = s.cfgLat := by unfold State.popOut; cases s.outq <;> rfl
@[simp] theorem State.popOut_cfgThr (s : State S) : s.popOut.cfgThr = s.cfgThr := by unfold State.popOut; cases s.outq <;> rfl
@[simp] theorem State.popOut_F (s : State S) : s.popOut.F = s.F := by unfold State.popOut; cases s.outq <;> rfl
@[simp] theorem State.popOut_O (s : State S) : s.popOut.O = s.O := by unfold State.popOut; cases s.outq <;> rfl
@[simp] theorem State.popOut_W (s : State S) : s.popOut.W = s.W := by unfold State.popOut; cases s.outq <;> rfl
@[simp] theorem State.popOut_L (s : State S) : s.popOut.L = s.L := by unfold State.popOut; cases s.outq <;> rfl
@[simp] theorem State.popOut_mode (s : State S) : s.popOut.mode = s.mode := by unfold State.popOut; cases s.outq <;> rfl
@[simp] theorem State.popOut_auto (s : State S) : s.popOut.auto = s.auto := by unfold State.popOut; cases s.outq <;> rfl
@[simp] theorem State.popOut_ratio (s : State S) : s.popOut.ratio = s.ratio := by unfold State.popOut; cases s.outq <;> rfl
@[simp] theorem State.popOut_avg (s : State S) : s.popOut.avg = s.avg := by unfold State.popOut; cases s.outq <;> rfl
@[simp] theorem State.popOut_errCfg (s : State S) : s.popOut.errCfg = s.errCfg := by unfold State.popOut; cases s.outq <;> rfl
@[simp] theorem State.popOut_errSeq (s : State S) : s.popOut.errSeq = s.errSeq := by unfold State.popOut; cases s.outq <;> rfl
@[simp] theorem State.popOut_errBus (s : State S) : s.popOut.errBus = s.errBus := by unfold State.popOut; cases s.outq <;> rfl
@[simp] theorem State.popOut_fin (s : State S) : s.popOut.fin = s.fin := by unfold State.popOut; cases s.outq <;> rfl
@[simp] theorem State.popOut_carry (s : State S) : s.popOut.carry = s.carry := by unfold State.popOut; cases s.outq <;> rfl
@[simp] theorem State.popOut_inq (s : State S) : s.popOut.inq = s.inq := by unfold State.popOut; cases s.outq <;> rfl
@[simp] theorem State.popOut_outq (s : State S) : s.popOut.outq = s.outq.tail := by
  unfold State.popOut; cases h : s.outq <;> simp [h]
@[simp] theorem State.popOut_host (s : State S) : s.popOut.host = s.host := by unfold State.popOut; cases s.outq <;> rfl
@[simp] theorem State.popOut_turn (s : State S) : s.popOut.turn = s.turn := by unfold State.popOut; cases s.outq <;> rfl
@[simp] theorem State.popOut_tick (s : State S) : s.popOut.tick = s.tick := by unfold State.popOut; cases s.outq <;> rfl
@[simp] theorem State.popOut_reply (s : State S) :
    s.popOut.reply = (s.outq.head?.elim s.reply Reply.sample) := by
  unfold State.popOut; cases h : s.outq <;> simp

/-! ### `State.resetBlock` -/

@[simp] theorem State.resetBlock_st (P : Params S) (s : State S) : (s.resetBlock P).st = (State.cleared P.num.zero).st := rfl
@[simp] theorem State.resetBlock_ctrl (P : Params S) (s : State S) : (s.resetBlock P).ctrl = (State.cleared P.num.zero).ctrl := rfl
@[simp] theorem State.resetBlock_cfgF (P : Params S) (s : State S) : (s.resetBlock P).cfgF = (State.cleared P.num.zero).cfgF := rfl
@[simp] theorem State.resetBlock_cfgWnd (P : Params S) (s : State S) : (s.resetBlock P).cfgWnd = (State.cleared P.num.zero).cfgWnd := rfl
@[simp] theorem State.resetBlock_cfgLat (P : Params S) (s : State S) : (s.resetBlock P).cfgLat = (State.cleared P.num.zero).cfgLat := rfl
@[simp] theorem State.resetBlock_cfgThr (P : Params S) (s : State S) : (s.resetBlock P).cfgThr = (State.cleared P.num.zero).cfgThr := rfl
@[simp] theorem State.resetBlock_F (P : Params S) (s : State S) : (s.resetBlock P).F = (State.cleared P.num.zero).F := rfl
@[simp] theorem State.resetBlock_O (P : Params S) (s : State S) : (s.resetBlock P).O = (State.cleared P.num.zero).O := rfl
@[simp] theorem State.resetBlock_W (P : Params S) (s : State S) : (s.resetBlock P).W = (State.cleared P.num.zero).W := rfl
@[simp] theorem State.resetBlock_L (P : Params S) (s : State S) : (s.resetBlock P).L = (State.cleared P.num.zero).L := rfl
@[simp] theorem State.resetBlock_mode (P : Params S) (s : State S) : (s.resetBlock P).mode = (State.cleared P.num.zero).mode := rfl
@[simp] theorem State.resetBlock_auto (P : Params S) (s : State S) : (s.resetBlock P).auto = (State.cleared P.num.zero).auto := rfl
@[simp] theorem State.resetBlock_ratio (P : Params S) (s : State S) : (s.resetBlock P).ratio = (State.cleared P.num.zero).ratio := rfl
@[simp] theorem State.resetBlock_avg (P : Params S) (s : State S) : (s.resetBlock P).avg = (State.cleared P.num.zero).avg := rfl
@[simp] theorem State.resetBlock_errCfg (P : Params S) (s : State S) : (s.resetBlock P).errCfg = (State.cleared P.num.zero).errCfg := rfl
@[simp] theorem State.resetBlock_errSeq (P : Params S) (s : State S) : (s.resetBlock P).errSeq = (State.cleared P.num.zero).errSeq := rfl
@[simp] theorem State.resetBlock_errBus (P : Params S) (s : State S) : (s.resetBlock P).errBus = (State.cleared P.num.zero).errBus := rfl
@[simp] theorem State.resetBlock_fin (P : Params S) (s : State S) : (s.resetBlock P).fin = (State.cleared P.num.zero).fin := rfl
@[simp] theorem State.resetBlock_carry (P : Params S) (s : State S) : (s.resetBlock P).carry = (State.cleared P.num.zero).carry := rfl
@[simp] theorem State.resetBlock_inq (P : Params S) (s : State S) : (s.resetBlock P).inq = (State.cleared P.num.zero).inq := rfl
@[simp] theorem State.resetBlock_outq (P : Params S) (s : State S) : (s.resetBlock P).outq = (State.cleared P.num.zero).outq := rfl
@[simp] theorem State.resetBlock_host (P : Params S) (s : State S) : (s.resetBlock P).host = s.host := rfl
@[simp] theorem State.resetBlock_turn (P : Params S) (s : State S) : (s.resetBlock P).turn = s.turn := rfl
@[simp] theorem State.resetBlock_tick (P : Params S) (s : State S) : (s.resetBlock P).tick = s.tick := rfl
@[simp] theorem State.resetBlock_reply (P : Params S) (s : State S) : (s.resetBlock P).reply = s.reply := rfl

end Sys2Proof.Machine
end

