-- ==== Sys2Proof/Laws/Ops.lean ====
section
/-!
SUPPORT. What each shared operation does, once: error events, register reads, the choice of the next step.
-/

namespace Sys2Proof.Machine

variable {S : Type}

/-- Raising an event sets its own flag and no other. -/
@[simp] theorem State.raise_flag (s : State S) (e e' : Event) : (s.raise e).flag e' = (s.flag e' || decide (e = e')) := by
  cases e <;> cases e' <;> simp [State.flag]

/-- Acknowledging clears exactly the flags whose bits are 1. -/
@[simp] theorem State.acknowledge_flag (s : State S) (v : Word) (e : Event) :
    (s.acknowledge v).flag e = (s.flag e && !v.getLsbD (eventBit e)) := by
  cases e <;> rfl

@[simp] theorem State.answer_flag (s : State S) (r : Reply) (e : Event) : (s.answer r).flag e = s.flag e := by
  cases e <;> rfl

@[simp] theorem State.grant_flag (P : Params S) (s : State S) (rest : List Request) (e : Event) :
    (s.grant P rest).flag e = s.flag e := by
  cases e <;> rfl

theorem State.readReg_eq (P : Params S) (s : State S) (r : Reg) : s.readReg P r = s.answer (.word (s.reg P r)) := rfl

theorem State.refuseRead_eq (s : State S) : s.refuseRead = (s.raise .bus).answer (.word 0) := rfl

theorem State.refuseWrite_eq (s : State S) : s.refuseWrite = s.raise .bus := rfl

theorem State.refuseCommand_eq (s : State S) : s.refuseCommand = s.raise .seq := rfl

theorem State.popOut_nil {s : State S} (h : s.outq = []) : s.popOut = s := by simp [State.popOut, h]

theorem State.popOut_cons {s : State S} {x : Sample} {rest : List Sample} (h : s.outq = x :: rest) :
    s.popOut = { s with outq := rest, reply := .sample x } := by simp [State.popOut, h]

theorem State.conf_iff (s : State S) : s.conf = true ↔ s.st = .idle := by simp [State.conf]

theorem State.conf_eq_false_iff (s : State S) : s.conf = false ↔ s.st = .unconf := by
  unfold State.conf; cases s.st <;> decide

theorem State.inReady_iff (P : Params S) (s : State S) : s.inReady P = true ↔ s.st = .idle ∧ s.inq.length < P.capIn := by
  simp [State.inReady, State.conf_iff]

theorem State.outValid_iff (s : State S) : s.outValid = true ↔ 0 < s.outq.length := by simp [State.outValid]

theorem State.canProcess_iff (P : Params S) (s : State S) : s.canProcess P = true ↔
    s.st = .idle ∧ s.block ≤ s.inq.length ∧ s.block ≤ P.capOut - s.outq.length := by
  simp [State.canProcess, State.conf_iff, and_assoc]

theorem State.autoEnabled_iff (P : Params S) (s : State S) : s.autoEnabled P = true ↔ s.auto = true ∧ s.canProcess P = true := by
  simp [State.autoEnabled]

@[simp] theorem State.holds_push (P : Params S) (s : State S) (re im : Word) :
    s.holds P (.push re im) = !s.inReady P := rfl

@[simp] theorem State.holds_pop (P : Params S) (s : State S) : s.holds P .pop = !s.outValid := rfl

/-- Only a PUSH or a POP can wait. -/
theorem State.holds_iff (P : Params S) (s : State S) (i : Instr) : s.holds P i = true ↔
    (∃ re im, i = .push re im) ∧ s.inReady P = false ∨ i = .pop ∧ s.outValid = false := by
  cases i
  case push re im =>
    rw [State.holds_push, Bool.not_eq_true']
    exact ⟨fun h => .inl ⟨⟨re, im, rfl⟩, h⟩, by rintro (⟨_, h⟩ | ⟨h, _⟩); exacts [h, (by cases h)]⟩
  case pop =>
    rw [State.holds_pop, Bool.not_eq_true']
    exact ⟨fun h => .inr ⟨rfl, h⟩, by rintro (⟨⟨_, _, h⟩, _⟩ | ⟨_, h⟩); exacts [(by cases h), h]⟩
  all_goals exact Iff.intro (fun h => by cases h) (by rintro (⟨⟨_, _, h⟩, _⟩ | ⟨h, _⟩) <;> cases h)

/-- A request waits as its operation does. -/
theorem State.holdsRequest_of_decode {P : Params S} {s : State S} {r : Request} {i : Instr} (h : decode r = .ok i) :
    s.holdsRequest P r = s.holds P i := by
  unfold State.holdsRequest; rw [h]

/-- The three shapes of a step. -/
theorem stepWith_cases {P : Params S} {run : Instr → State S → Host.Outcome (State S) Fault Refusal} (s : State S) :
    (s.autoEnabled P = true ∧ s.nextMove P = .engine ∧ stepWith P run s = run .autostep (s.grant P s.host)) ∨
    (∃ r rest i, s.host = r :: rest ∧ s.holdsRequest P r = false ∧ decode r = .ok i ∧
      stepWith P run s = run i (s.grant P rest)) ∨
    (∃ r rest e, s.host = r :: rest ∧ decode r = .error e ∧
      stepWith P run s = .next ((s.grant P rest).refuseRequest r)) ∨
    (s.hostWaits P ∧ s.autoEnabled P = false ∧ stepWith P run s = .next (s.grant P s.host)) := by
  cases hh : s.host with
  | nil =>
    cases ha : s.autoEnabled P with
    | true =>
      have hm : s.nextMove P = .engine := by simp [State.nextMove, hh, ha]
      exact .inl ⟨rfl, hm, by simp [stepWith, hm, hh]⟩
    | false =>
      have hm : s.nextMove P = .wait := by simp [State.nextMove, hh, ha]
      exact .inr (.inr (.inr ⟨fun _ _ h => by simp [hh] at h, rfl, by simp [stepWith, hm, hh]⟩))
  | cons r rest =>
    cases hr : s.holdsRequest P r with
    | true =>
      cases ha : s.autoEnabled P with
      | true =>
        have hm : s.nextMove P = .engine := by simp [State.nextMove, hh, hr, ha]
        exact .inl ⟨rfl, hm, by simp [stepWith, hm, hh]⟩
      | false =>
        have hm : s.nextMove P = .wait := by simp [State.nextMove, hh, hr, ha]
        refine .inr (.inr (.inr ⟨fun q l h => ?_, rfl, by simp [stepWith, hm, hh]⟩))
        rw [hh] at h
        cases h
        exact hr
    | false =>
      by_cases ht : (s.autoEnabled P && s.turn == .engine) = true
      · have hm : s.nextMove P = .engine := by simp [State.nextMove, hh, hr, ht]
        exact .inl ⟨by revert ht; cases s.autoEnabled P <;> simp, hm, by simp [stepWith, hm, hh]⟩
      · have hm : s.nextMove P = .host r rest := by simp [State.nextMove, hh, hr, ht]
        cases hd : decode r with
        | ok i => exact .inr (.inl ⟨r, rest, i, rfl, hr, hd, by simp [stepWith, hm, hd]⟩)
        | error e => exact .inr (.inr (.inl ⟨r, rest, e, rfl, hd, by simp [stepWith, hm, hd]⟩))

/-- One more step of a run. -/
theorem run_succ {k : Nat} {s t : State} (h : step s = .next t) :
    Sys2Proof.core.run (k + 1) s = Sys2Proof.core.run k t := by
  have h' : Sys2Proof.core.step s = .next t := h
  simp only [Host.Core.run, h']

/-- `exec` is the operations of the machine of any part, at `thePart`. -/
theorem exec_eq (i : Instr) (s : State) : exec i s = execOf thePart i s := by cases i <;> rfl

/-- `step` is the step of the machine of any part, at `thePart`. -/
theorem step_eq (s : State) : step s = stepOf thePart s := by
  have h : (exec : Instr → State → _) = execOf thePart := funext fun i => funext fun t => exec_eq i t
  rw [step, stepOf, h]

end Sys2Proof.Machine
end

