-- ==== Sys2Proof/Laws/Block.lean ====
section
/-!
SUPPORT. Lengths of the vectors of a block step, and of its output.
-/

namespace Sys2Proof.Machine

section Generic

variable {S : Type} (N : Numerics S)

@[simp] theorem levels_length (bins : List (Cplx S)) : (levels N bins).length = bins.length := by simp [levels]

@[simp] theorem gates_length (thr : S) (lv : List S) : (gates N thr lv).length = lv.length := by simp [gates]

@[simp] theorem counts_length (F W : Nat) (g : List Bool) : (counts F W g).length = F := by simp [counts]

@[simp] theorem gateBins_length (F W L : Nat) (ratio avg : S) (bins : List (Cplx S)) :
    (gateBins N F W L ratio avg bins).length = min F bins.length := by simp [gateBins]

@[simp] theorem forward_length (fin : List (Cplx S)) : (forward N fin).length = fin.length := by simp [forward]

@[simp] theorem reconstruct_length (F : Nat) (bins : List (Cplx S)) : (reconstruct N F bins).length = bins.length := by
  simp [reconstruct]

@[simp] theorem crossfade_length (O : Nat) (rec carry : List (Cplx S)) : (crossfade N O rec carry).length = O := by
  simp [crossfade]

@[simp] theorem newCarry_length (F O : Nat) (rec : List (Cplx S)) : (newCarry N F O rec).length = O := by
  simp [newCarry]

@[simp] theorem emit_length (O n : Nat) (head rec : List (Cplx S)) : (emit N O n head rec).length = n := by simp [emit]

@[simp] theorem blockOut_length (O n : Nat) (mode : Mode) (rec carry : List (Cplx S)) :
    (blockOut N O n mode rec carry).length = n := by simp [blockOut]

@[simp] theorem inputValues_length (bad : Nat → Word → S) (mode : Mode) (xs : List Sample) :
    (inputValues N bad mode xs).length = xs.length := by simp [inputValues]

theorem loadInput_length {fin ys : List (Cplx S)} (h : ys.length ≤ fin.length) :
    (loadInput fin ys).length = fin.length := by simp [loadInput]; omega

/-- Positions past the samples taken are not written (R152). -/
theorem loadInput_getElem?_ge {fin ys : List (Cplx S)} {i : Nat} (h : ys.length ≤ i) :
    (loadInput fin ys)[i]? = fin[i]? := by
  rw [loadInput, List.getElem?_append_right h, List.getElem?_drop]
  congr 1
  omega

/-- Positions of the samples taken hold their values (R152). -/
theorem loadInput_getElem?_lt {fin ys : List (Cplx S)} {i : Nat} (h : i < ys.length) :
    (loadInput fin ys)[i]? = ys[i]? := by
  rw [loadInput, List.getElem?_append_left h]

end Generic

variable {S : Type} {P : Params S}

theorem State.loaded_length {s : State S} {n : Nat} (hn : n ≤ s.fin.length) :
    (s.loaded P n).length = s.fin.length :=
  loadInput_length (by simp; omega)

theorem State.runBlock_outq_length (s : State S) (n : Nat) : (s.runBlock P n).outq.length = s.outq.length + n := by simp

theorem State.runBlock_inq_length (s : State S) (n : Nat) : (s.runBlock P n).inq.length = s.inq.length - n := by simp

theorem State.runBlock_carry_length (s : State S) (n : Nat) : (s.runBlock P n).carry.length = s.O := by simp

end Sys2Proof.Machine
end

