-- ==== Sys2Proof/Laws/Effect.lean ====
section
/-!
SUPPORT. What an operation can do, once: every next state of an operation is one of the effects of `Effect`, each with the
conditions under which its operation has it. An invariant of the machine is proved by cases on `Effect`.
-/

namespace Sys2Proof.Machine

variable {S : Type} {P : Params S}

/-- The effects of the operations on a state. -/
inductive Effect (P : Params S) (s : State S) : State S → Prop where
  /-- nothing happens: NOP, a FLUSH without input, a dropped threshold, a transfer that waits, an AUTOSTEP not enabled -/
  | same : Effect P s s
  /-- an error event is raised and nothing else happens -/
  | raised (e : Event) : Effect P s (s.raise e)
  /-- a read that raises ERR_BUS -/
  | readRefused : Effect P s s.refuseRead
  /-- a register is read -/
  | read (r : Reg) : Effect P s (s.readReg P r)
  /-- flags are acknowledged -/
  | acknowledged (v : Word) : Effect P s (s.acknowledge v)
  /-- a staging register is written -/
  | ctrl (v : Word) : Effect P s (s.setCtrl v)
  | cfgF (v : Word) : Effect P s (s.setCfgF v)
  | cfgWnd (v : Word) : Effect P s (s.setCfgWnd v)
  | cfgLat (v : Word) : Effect P s (s.setCfgLat v)
  | cfgThr (v : Word) : Effect P s (s.setCfgThr v)
  /-- the threshold of a live stage is replaced -/
  | ratio (r : S) (hst : s.st = .idle) (hr : thresholdRatio P s.cfgThr = some r) : Effect P s (s.setRatio r)
  /-- a stage is made -/
  | started (r : S) (hst : s.st = .unconf) (hF : P.supported (deriveF s.cfgF) = true)
      (hr : thresholdRatio P s.cfgThr = some r) : Effect P s (s.startStage P r)
  /-- the stage is destroyed -/
  | stopped (hst : s.st = .idle) : Effect P s s.stopStage
  /-- a block step on `n` samples -/
  | block (n : Nat) (hst : s.st = .idle) (hn : n ≤ s.block) (hin : n ≤ s.inq.length)
      (hout : n ≤ P.capOut - s.outq.length) : Effect P s (s.runBlock P n)
  /-- a sample enters -/
  | pushed (x : Sample) (hst : s.st = .idle) (hlen : s.inq.length < P.capIn) : Effect P s (s.pushIn x)
  /-- a sample leaves, or none is there -/
  | popped : Effect P s s.popOut
  /-- the reset input -/
  | reset : Effect P s (s.resetBlock P)

theorem initCommand_effect (s : State S) : Effect P s (s.initCommand P) := by
  unfold State.initCommand
  split
  · exact .raised .seq
  · rename_i hc
    split
    · rename_i hF
      cases hr : thresholdRatio P s.cfgThr with
      | none => exact .raised .cfg
      | some r => exact .started r ((State.conf_eq_false_iff s).1 (by simpa using hc)) hF hr
    · exact .raised .cfg

theorem setthrCommand_effect (s : State S) : Effect P s (s.setthrCommand P) := by
  unfold State.setthrCommand
  split
  · rename_i hc
    cases hr : thresholdRatio P s.cfgThr with
    | none => exact .same
    | some r => exact .ratio r ((State.conf_iff s).1 hc) hr
  · exact .raised .seq

theorem flushCommand_effect (s : State S) : Effect P s (s.flushCommand P) := by
  unfold State.flushCommand
  split
  · rename_i hc
    split
    · exact .same
    · split
      · rename_i hn
        exact .block _ ((State.conf_iff s).1 hc) (Nat.min_le_right _ _) (Nat.min_le_left _ _) hn
      · exact .raised .seq
  · exact .raised .seq

/-- A full block, where `canProcess` holds. -/
theorem fullBlock_effect {s : State S} (h : s.canProcess P = true) : Effect P s (s.runBlock P s.block) := by
  obtain ⟨hst, hin, hout⟩ := (State.canProcess_iff P s).1 h
  exact .block _ hst (Nat.le_refl _) hin hout

/-- Every next state of an operation is one of its effects. -/
theorem execOf_effect {i : Instr} {s t : State S} (h : execOf P i s = .next t) : Effect P s t := by
  cases i with
  | nop => injection h with h; subst h; exact .same
  | init => injection h with h; subst h; exact initCommand_effect s
  | proc =>
    injection h with h; subst h
    unfold State.procCommand
    split
    · exact fullBlock_effect (by assumption)
    · exact .raised .seq
  | flush => injection h with h; subst h; exact flushCommand_effect s
  | setthr => injection h with h; subst h; exact setthrCommand_effect s
  | stop =>
    injection h with h; subst h
    split
    · exact .stopped ((State.conf_iff s).1 (by assumption))
    · exact .raised .seq
  | cmdReserved6To7 _ => injection h with h; subst h; exact .raised .seq
  | cmdReservedBit3 _ => injection h with h; subst h; exact .raised .seq
  | cmdReservedBit4 _ => injection h with h; subst h; exact .raised .seq
  | cmdReservedBit5 _ => injection h with h; subst h; exact .raised .seq
  | cmdReservedBit6 _ => injection h with h; subst h; exact .raised .seq
  | cmdReservedBit7 _ => injection h with h; subst h; exact .raised .seq
  | cmdReservedBit8 _ => injection h with h; subst h; exact .raised .seq
  | cmdReservedBit9 _ => injection h with h; subst h; exact .raised .seq
  | cmdReservedBit10 _ => injection h with h; subst h; exact .raised .seq
  | cmdReservedBit11 _ => injection h with h; subst h; exact .raised .seq
  | cmdReservedBit12 _ => injection h with h; subst h; exact .raised .seq
  | cmdReservedBit13 _ => injection h with h; subst h; exact .raised .seq
  | cmdReservedBit14 _ => injection h with h; subst h; exact .raised .seq
  | cmdReservedBit15 _ => injection h with h; subst h; exact .raised .seq
  | cmdReservedBit16 _ => injection h with h; subst h; exact .raised .seq
  | cmdReservedBit17 _ => injection h with h; subst h; exact .raised .seq
  | cmdReservedBit18 _ => injection h with h; subst h; exact .raised .seq
  | cmdReservedBit19 _ => injection h with h; subst h; exact .raised .seq
  | cmdReservedBit20 _ => injection h with h; subst h; exact .raised .seq
  | cmdReservedBit21 _ => injection h with h; subst h; exact .raised .seq
  | cmdReservedBit22 _ => injection h with h; subst h; exact .raised .seq
  | cmdReservedBit23 _ => injection h with h; subst h; exact .raised .seq
  | cmdReservedBit24 _ => injection h with h; subst h; exact .raised .seq
  | cmdReservedBit25 _ => injection h with h; subst h; exact .raised .seq
  | cmdReservedBit26 _ => injection h with h; subst h; exact .raised .seq
  | cmdReservedBit27 _ => injection h with h; subst h; exact .raised .seq
  | cmdReservedBit28 _ => injection h with h; subst h; exact .raised .seq
  | cmdReservedBit29 _ => injection h with h; subst h; exact .raised .seq
  | cmdReservedBit30 _ => injection h with h; subst h; exact .raised .seq
  | cmdReservedBit31 _ => injection h with h; subst h; exact .raised .seq
  | wrStatus v => injection h with h; subst h; exact .acknowledged v
  | wrCtrl v => injection h with h; subst h; exact .ctrl v
  | wrCfgF v => injection h with h; subst h; exact .cfgF v
  | wrCfgWnd v => injection h with h; subst h; exact .cfgWnd v
  | wrCfgLat v => injection h with h; subst h; exact .cfgLat v
  | wrCfgThr v => injection h with h; subst h; exact .cfgThr v
  | wrEffFIllegal _ => injection h with h; subst h; exact .raised .bus
  | wrEffOIllegal _ => injection h with h; subst h; exact .raised .bus
  | wrEffWIllegal _ => injection h with h; subst h; exact .raised .bus
  | wrEffLIllegal _ => injection h with h; subst h; exact .raised .bus
  | wrRatioIllegal _ => injection h with h; subst h; exact .raised .bus
  | wrAvgIllegal _ => injection h with h; subst h; exact .raised .bus
  | wrInLevelIllegal _ => injection h with h; subst h; exact .raised .bus
  | wrOutLevelIllegal _ => injection h with h; subst h; exact .raised .bus
  | wrReserved3C _ => injection h with h; subst h; exact .raised .bus
  | wrUnmapped40To7F _ _ => injection h with h; subst h; exact .raised .bus
  | wrUnmapped80ToFF _ _ => injection h with h; subst h; exact .raised .bus
  | wrMisaligned1 _ _ => injection h with h; subst h; exact .raised .bus
  | wrMisaligned2 _ _ => injection h with h; subst h; exact .raised .bus
  | wrMisaligned3 _ _ => injection h with h; subst h; exact .raised .bus
  | rdCmd => injection h with h; subst h; exact .read _
  | rdStatus => injection h with h; subst h; exact .read _
  | rdCtrl => injection h with h; subst h; exact .read _
  | rdCfgF => injection h with h; subst h; exact .read _
  | rdCfgWnd => injection h with h; subst h; exact .read _
  | rdCfgLat => injection h with h; subst h; exact .read _
  | rdCfgThr => injection h with h; subst h; exact .read _
  | rdEffF => injection h with h; subst h; exact .read _
  | rdEffO => injection h with h; subst h; exact .read _
  | rdEffW => injection h with h; subst h; exact .read _
  | rdEffL => injection h with h; subst h; exact .read _
  | rdRatio => injection h with h; subst h; exact .read _
  | rdAvg => injection h with h; subst h; exact .read _
  | rdInLevel => injection h with h; subst h; exact .read _
  | rdOutLevel => injection h with h; subst h; exact .read _
  | rdReserved3C => injection h with h; subst h; exact .readRefused
  | rdUnmapped40To7F _ => injection h with h; subst h; exact .readRefused
  | rdUnmapped80ToFF _ => injection h with h; subst h; exact .readRefused
  | rdMisaligned1 _ => injection h with h; subst h; exact .readRefused
  | rdMisaligned2 _ => injection h with h; subst h; exact .readRefused
  | rdMisaligned3 _ => injection h with h; subst h; exact .readRefused
  | push re im =>
    injection h with h; subst h
    unfold State.push
    split
    · rename_i hr
      exact .pushed _ ((State.inReady_iff P s).1 hr).1 ((State.inReady_iff P s).1 hr).2
    · exact .same
  | pop => injection h with h; subst h; exact .popped
  | autostep =>
    injection h with h; subst h
    unfold State.autostep
    split
    · exact fullBlock_effect ((State.autoEnabled_iff P s).1 (by assumption)).2
    · exact .same
  | reset => injection h with h; subst h; exact .reset

/-- Every next state of `exec` is an effect in the machine of `thePart`. -/
theorem exec_effect {i : Instr} {s t : State} (h : exec i s = .next t) : Effect thePart s t :=
  execOf_effect (exec_eq i s ▸ h)

/-- Every next state of a step is an effect on the granted state. -/
theorem stepOf_effect {s t : State S} (h : stepOf P s = .next t) : ∃ rest, Effect P (s.grant P rest) t := by
  unfold stepOf at h
  rcases stepWith_cases (P := P) (run := execOf P) s with ⟨_, _, ht⟩ | ⟨_, rest, _, _, _, _, ht⟩ | ⟨r, rest, _, _, _, ht⟩ | ⟨_, _, ht⟩
  · exact ⟨s.host, execOf_effect (ht ▸ h)⟩
  · exact ⟨rest, execOf_effect (ht ▸ h)⟩
  · rw [ht] at h
    injection h with h; subst h
    refine ⟨rest, ?_⟩
    cases r with
    | read _ _ => exact .readRefused
    | write _ _ _ => exact .raised .bus
    | transfer _ => exact .same
    | reset => exact .same
  · rw [ht] at h
    injection h with h; subst h
    exact ⟨s.host, .same⟩

end Sys2Proof.Machine
end

