-- ==== Sys2Proof/Laws/Numerics.lean ====
section
/-!
SUPPORT. The entries of the two numerics records, one lemma per entry, so that no later proof unfolds a record.
-/

namespace Sys2Proof.Machine

section Lawful

variable {S : Type} [DecidableEq S] (N : Numerics S)

theorem lawful_zero : (lawful N).zero = N.zero := rfl
theorem lawful_one : (lawful N).one = N.one := rfl
theorem lawful_czero : (lawful N).czero = N.czero := rfl
theorem lawful_ofNat (n : Nat) : (lawful N).ofNat n = if n = 0 then N.zero else if n = 1 then N.one else N.ofNat n := rfl
theorem lawful_add (x y : S) : (lawful N).add x y = if x = N.zero then y else if y = N.zero then x else N.add x y := rfl
theorem lawful_sub (x y : S) : (lawful N).sub x y = if y = N.zero then x else N.sub x y := rfl
theorem lawful_mul (x y : S) : (lawful N).mul x y = if x = N.zero ∨ y = N.zero then N.zero else N.mul x y := rfl
theorem lawful_div (x y : S) : (lawful N).div x y = if x = N.zero then N.zero else N.div x y := rfl
theorem lawful_gt (x y : S) : (lawful N).gt x y = if x = N.zero ∧ y = N.zero then false else N.gt x y := rfl
theorem lawful_sumF (l : List S) :
    (lawful N).sumF l = if l.all (fun x => decide (x = N.zero)) then N.zero else N.sumF l := rfl
theorem lawful_maxF (l : List S) :
    (lawful N).maxF l = if l.all (fun x => decide (x = N.zero)) then N.zero else N.maxF l := rfl
theorem lawful_decFinite (w : Word) : (lawful N).decFinite w = if w = 0 then N.zero else N.decFinite w := rfl
theorem lawful_enc32 (x : S) : (lawful N).enc32 x = if x = N.zero then 0 else N.enc32 x := rfl
theorem lawful_fwd (v : List (Cplx S)) (k : Nat) :
    (lawful N).fwd v k = if v.all (fun z => decide (z = N.czero)) then N.czero else N.fwd v k := rfl
theorem lawful_inv (v : List (Cplx S)) (k : Nat) :
    (lawful N).inv v k = if v.all (fun z => decide (z = N.czero)) then N.czero else N.inv v k := rfl

end Lawful

@[simp] theorem lawfulPart_num {S : Type} [DecidableEq S] (P : Params S) : (lawfulPart P).num = lawful P.num := rfl

@[simp] theorem lawfulPart_capIn {S : Type} [DecidableEq S] (P : Params S) : (lawfulPart P).capIn = max 31 P.capIn := rfl

@[simp] theorem lawfulPart_capOut {S : Type} [DecidableEq S] (P : Params S) : (lawfulPart P).capOut = max 31 P.capOut := rfl

@[simp] theorem thePart_zero : thePart.num.zero = Scalar.zero := rfl

@[simp] theorem referencePart_num (bad : Nat → Nat → Word → ℝ) (next : Nat → Agent) :
    (referencePart bad next).num = numR := rfl

@[simp] theorem numR_zero : numR.zero = 0 := rfl
@[simp] theorem numR_one : numR.one = 1 := rfl
@[simp] theorem numR_czero : numR.czero = ⟨0, 0⟩ := rfl
@[simp] theorem numR_ofNat (n : Nat) : numR.ofNat n = n := rfl
@[simp] theorem numR_add (x y : ℝ) : numR.add x y = x + y := rfl
@[simp] theorem numR_sub (x y : ℝ) : numR.sub x y = x - y := rfl
@[simp] theorem numR_mul (x y : ℝ) : numR.mul x y = x * y := rfl
@[simp] theorem numR_div (x y : ℝ) : numR.div x y = x / y := rfl
@[simp] theorem numR_sqrt (x : ℝ) : numR.sqrt x = Real.sqrt x := rfl
@[simp] theorem numR_gt (x y : ℝ) : (numR.gt x y = true) ↔ y < x := by simp [numR]
@[simp] theorem numR_sumF (l : List ℝ) : numR.sumF l = l.sum := rfl
theorem numR_maxF (l : List ℝ) : numR.maxF l = l.foldl max (l.headD 0) := rfl
theorem numR_db2ratio (d : ℝ) : numR.db2ratio d = (10 : ℝ) ^ (d / 20) := rfl
theorem numR_decFinite (w : Word) : numR.decFinite w = (value32 w : ℝ) := rfl
theorem numR_enc32 (x : ℝ) : numR.enc32 x = encode32 x := rfl
theorem numR_fwd (v : List (Cplx ℝ)) (k : Nat) : numR.fwd v k = transformR (-1) v k := rfl
theorem numR_inv (v : List (Cplx ℝ)) (k : Nat) : numR.inv v k = transformR 1 v k := rfl

/-- A pair of real scalars is the parts of its complex number. -/
@[simp] theorem ofComplex_toComplex (z : Cplx ℝ) : ofComplex (toComplex z) = z := rfl

@[simp] theorem toComplex_ofComplex (z : ℂ) : toComplex (ofComplex z) = z := rfl

end Sys2Proof.Machine
end

