-- ==== Sys2Proof/Laws/PerInstr.lean ====
section
/-!
SUPPORT. The family `EncodesInRow`: the request of a well-formed operation selects the operation's own row of
spec/opcode_table.json (30_encoding.md R90). One lemma per constructor.
-/

namespace Sys2Proof.Laws.EncodesInRow

/-- The operation's request, if it has one, selects its row. -/
def Statement (i : Instr) : Prop :=
  i.wellFormed = true → ∀ r, encode i = some r → r.selects i.row = true

/-- A word in `2^k .. 2^(k+1) - 1` has bit `k` as its highest set bit: only that bit is left above the low `k`. -/
theorem and_high_mask (k : Nat) (hk : k < 32) (w : Word) (hlo : 2 ^ k ≤ w.toNat) (hhi : w.toNat < 2 ^ (k + 1)) :
    w &&& (BitVec.allOnes 32 <<< k) = BitVec.twoPow 32 k := by
  apply BitVec.eq_of_getLsbD_eq
  intro i hi
  have hw : w.toNat / 2 ^ k = 1 := Nat.div_eq_of_lt_le (by omega) (by rw [Nat.pow_succ] at hhi; omega)
  rw [BitVec.getLsbD_and, BitVec.getLsbD_shiftLeft, BitVec.getLsbD_twoPow]
  by_cases hik : i < k
  · simp [hik]; omega
  · obtain ⟨j, rfl⟩ := Nat.exists_eq_add_of_le (Nat.le_of_not_lt hik)
    have hbit : w.getLsbD (k + j) = (w.toNat / 2 ^ k).testBit j := by
      rw [← BitVec.testBit_toNat, Nat.testBit_div_two_pow, Nat.add_comm]
    rw [hbit, hw]
    cases j with
    | zero => simp [hk]
    | succ j => rw [Nat.testBit_succ]; simp

/-- A write key against a row's mask, the offset and the word apart. -/
theorem write_key (o mo : Nat) (d md : Nat) (hmo : mo < 2 ^ 8) (hmd : md < 2 ^ 32) (off : Offset) (data : Word)
    (ho : off.toNat &&& mo = o) (hd : data.toNat &&& md = d) :
    (off ++ data).toNat &&& (mo * 2 ^ 32 + md) = o * 2 ^ 32 + d := by
  have e : mo * 2 ^ 32 + md = (BitVec.ofNat 8 mo ++ BitVec.ofNat 32 md).toNat := by
    rw [BitVec.toNat_append, BitVec.toNat_ofNat, BitVec.toNat_ofNat, Nat.mod_eq_of_lt hmo, Nat.mod_eq_of_lt hmd,
      Nat.shiftLeft_eq, Nat.mul_comm, Nat.two_pow_add_eq_or_of_lt hmd]
  rw [e, ← BitVec.toNat_and, BitVec.and_append, BitVec.toNat_append, BitVec.toNat_and, BitVec.toNat_and,
    BitVec.toNat_ofNat, BitVec.toNat_ofNat, Nat.mod_eq_of_lt hmo, Nat.mod_eq_of_lt hmd, ho, hd, Nat.shiftLeft_eq,
    Nat.mul_comm, ← Nat.two_pow_add_eq_or_of_lt (hd ▸ Nat.and_lt_two_pow _ hmd)]

/-- A write selects a row whose pattern and mask are those of its offset and of its word. -/
theorem write_selects (o mo d md : Nat) (hmo : mo < 2 ^ 8) (hmd : md < 2 ^ 32) (off : Offset) (data : Word)
    (ho : off.toNat &&& mo = o) (hd : data.toNat &&& md = d) :
    (Request.write off data 4).selects ⟨.write, o * 2 ^ 32 + d, mo * 2 ^ 32 + md⟩ = true := by
  unfold Request.selects
  simp only [Bool.and_eq_true, decide_eq_true_eq]
  exact ⟨rfl, write_key o mo d md hmo hmd off data ho hd⟩

theorem key_misaligned1 : ∀ o : Offset, Offset.misaligned 1 o = true → o.toNat &&& 0xC3 = 0x01 := by decide

theorem key_misaligned2 : ∀ o : Offset, Offset.misaligned 2 o = true → o.toNat &&& 0xC3 = 0x02 := by decide

theorem key_misaligned3 : ∀ o : Offset, Offset.misaligned 3 o = true → o.toNat &&& 0xC3 = 0x03 := by decide

theorem key_in40To7F : ∀ o : Offset, Offset.in40To7F o = true → o.toNat &&& 0xC0 = 0x40 := by decide

theorem key_in80ToFF : ∀ o : Offset, Offset.in80ToFF o = true → o.toNat &&& 0x80 = 0x80 := by decide

/-- A command word whose highest set bit is bit `k` selects the row of that bit. -/
theorem reserved_selects (k : Nat) (hk : k < 32) (w : Word) (hlo : 2 ^ k ≤ w.toNat) (hhi : w.toNat < 2 ^ (k + 1)) :
    (commandWrite w).selects ⟨.write, 0x00 * 2 ^ 32 + 2 ^ k, 0xFF * 2 ^ 32 + (BitVec.allOnes 32 <<< k).toNat⟩ = true := by
  refine write_selects 0x00 0xFF (2 ^ k) _ (by decide) (BitVec.isLt _) 0x00 w (by decide) ?_
  rw [← BitVec.toNat_and, and_high_mask k hk w hlo hhi, BitVec.toNat_twoPow,
    Nat.mod_eq_of_lt (Nat.pow_lt_pow_right (by omega) hk)]

theorem nop : Statement .nop := by
  intro _ r hr
  cases hr
  decide

theorem init : Statement .init := by
  intro _ r hr
  cases hr
  decide

theorem proc : Statement .proc := by
  intro _ r hr
  cases hr
  decide

theorem flush : Statement .flush := by
  intro _ r hr
  cases hr
  decide

theorem setthr : Statement .setthr := by
  intro _ r hr
  cases hr
  decide

theorem stop : Statement .stop := by
  intro _ r hr
  cases hr
  decide

theorem cmdReserved6To7 (code : Word) : Statement (.cmdReserved6To7 code) := by
  intro h r hr
  cases hr
  have hc : code.toNat = 6 ∨ code.toNat = 7 := by
    simp only [Instr.wellFormed, Word.inRange, decide_eq_true_eq] at h; omega
  exact write_selects 0x00 0xFF 6 0xFFFFFFFE (by decide) (by decide) 0x00 code (by decide)
    (by rcases hc with hc | hc <;> rw [hc] <;> decide)

theorem cmdReservedBit3 (code : Word) : Statement (.cmdReservedBit3 code) := by
  intro h r hr
  cases hr
  simp only [Instr.wellFormed, Word.inRange, decide_eq_true_eq] at h
  exact reserved_selects 3 (by decide) code (by omega) (by omega)

theorem cmdReservedBit4 (code : Word) : Statement (.cmdReservedBit4 code) := by
  intro h r hr
  cases hr
  simp only [Instr.wellFormed, Word.inRange, decide_eq_true_eq] at h
  exact reserved_selects 4 (by decide) code (by omega) (by omega)

theorem cmdReservedBit5 (code : Word) : Statement (.cmdReservedBit5 code) := by
  intro h r hr
  cases hr
  simp only [Instr.wellFormed, Word.inRange, decide_eq_true_eq] at h
  exact reserved_selects 5 (by decide) code (by omega) (by omega)

theorem cmdReservedBit6 (code : Word) : Statement (.cmdReservedBit6 code) := by
  intro h r hr
  cases hr
  simp only [Instr.wellFormed, Word.inRange, decide_eq_true_eq] at h
  exact reserved_selects 6 (by decide) code (by omega) (by omega)

theorem cmdReservedBit7 (code : Word) : Statement (.cmdReservedBit7 code) := by
  intro h r hr
  cases hr
  simp only [Instr.wellFormed, Word.inRange, decide_eq_true_eq] at h
  exact reserved_selects 7 (by decide) code (by omega) (by omega)

theorem cmdReservedBit8 (code : Word) : Statement (.cmdReservedBit8 code) := by
  intro h r hr
  cases hr
  simp only [Instr.wellFormed, Word.inRange, decide_eq_true_eq] at h
  exact reserved_selects 8 (by decide) code (by omega) (by omega)

theorem cmdReservedBit9 (code : Word) : Statement (.cmdReservedBit9 code) := by
  intro h r hr
  cases hr
  simp only [Instr.wellFormed, Word.inRange, decide_eq_true_eq] at h
  exact reserved_selects 9 (by decide) code (by omega) (by omega)

theorem cmdReservedBit10 (code : Word) : Statement (.cmdReservedBit10 code) := by
  intro h r hr
  cases hr
  simp only [Instr.wellFormed, Word.inRange, decide_eq_true_eq] at h
  exact reserved_selects 10 (by decide) code (by omega) (by omega)

theorem cmdReservedBit11 (code : Word) : Statement (.cmdReservedBit11 code) := by
  intro h r hr
  cases hr
  simp only [Instr.wellFormed, Word.inRange, decide_eq_true_eq] at h
  exact reserved_selects 11 (by decide) code (by omega) (by omega)

theorem cmdReservedBit12 (code : Word) : Statement (.cmdReservedBit12 code) := by
  intro h r hr
  cases hr
  simp only [Instr.wellFormed, Word.inRange, decide_eq_true_eq] at h
  exact reserved_selects 12 (by decide) code (by omega) (by omega)

theorem cmdReservedBit13 (code : Word) : Statement (.cmdReservedBit13 code) := by
  intro h r hr
  cases hr
  simp only [Instr.wellFormed, Word.inRange, decide_eq_true_eq] at h
  exact reserved_selects 13 (by decide) code (by omega) (by omega)

theorem cmdReservedBit14 (code : Word) : Statement (.cmdReservedBit14 code) := by
  intro h r hr
  cases hr
  simp only [Instr.wellFormed, Word.inRange, decide_eq_true_eq] at h
  exact reserved_selects 14 (by decide) code (by omega) (by omega)

theorem cmdReservedBit15 (code : Word) : Statement (.cmdReservedBit15 code) := by
  intro h r hr
  cases hr
  simp only [Instr.wellFormed, Word.inRange, decide_eq_true_eq] at h
  exact reserved_selects 15 (by decide) code (by omega) (by omega)

theorem cmdReservedBit16 (code : Word) : Statement (.cmdReservedBit16 code) := by
  intro h r hr
  cases hr
  simp only [Instr.wellFormed, Word.inRange, decide_eq_true_eq] at h
  exact reserved_selects 16 (by decide) code (by omega) (by omega)

theorem cmdReservedBit17 (code : Word) : Statement (.cmdReservedBit17 code) := by
  intro h r hr
  cases hr
  simp only [Instr.wellFormed, Word.inRange, decide_eq_true_eq] at h
  exact reserved_selects 17 (by decide) code (by omega) (by omega)

theorem cmdReservedBit18 (code : Word) : Statement (.cmdReservedBit18 code) := by
  intro h r hr
  cases hr
  simp only [Instr.wellFormed, Word.inRange, decide_eq_true_eq] at h
  exact reserved_selects 18 (by decide) code (by omega) (by omega)

theorem cmdReservedBit19 (code : Word) : Statement (.cmdReservedBit19 code) := by
  intro h r hr
  cases hr
  simp only [Instr.wellFormed, Word.inRange, decide_eq_true_eq] at h
  exact reserved_selects 19 (by decide) code (by omega) (by omega)

theorem cmdReservedBit20 (code : Word) : Statement (.cmdReservedBit20 code) := by
  intro h r hr
  cases hr
  simp only [Instr.wellFormed, Word.inRange, decide_eq_true_eq] at h
  exact reserved_selects 20 (by decide) code (by omega) (by omega)

theorem cmdReservedBit21 (code : Word) : Statement (.cmdReservedBit21 code) := by
  intro h r hr
  cases hr
  simp only [Instr.wellFormed, Word.inRange, decide_eq_true_eq] at h
  exact reserved_selects 21 (by decide) code (by omega) (by omega)

theorem cmdReservedBit22 (code : Word) : Statement (.cmdReservedBit22 code) := by
  intro h r hr
  cases hr
  simp only [Instr.wellFormed, Word.inRange, decide_eq_true_eq] at h
  exact reserved_selects 22 (by decide) code (by omega) (by omega)

theorem cmdReservedBit23 (code : Word) : Statement (.cmdReservedBit23 code) := by
  intro h r hr
  cases hr
  simp only [Instr.wellFormed, Word.inRange, decide_eq_true_eq] at h
  exact reserved_selects 23 (by decide) code (by omega) (by omega)

theorem cmdReservedBit24 (code : Word) : Statement (.cmdReservedBit24 code) := by
  intro h r hr
  cases hr
  simp only [Instr.wellFormed, Word.inRange, decide_eq_true_eq] at h
  exact reserved_selects 24 (by decide) code (by omega) (by omega)

theorem cmdReservedBit25 (code : Word) : Statement (.cmdReservedBit25 code) := by
  intro h r hr
  cases hr
  simp only [Instr.wellFormed, Word.inRange, decide_eq_true_eq] at h
  exact reserved_selects 25 (by decide) code (by omega) (by omega)

theorem cmdReservedBit26 (code : Word) : Statement (.cmdReservedBit26 code) := by
  intro h r hr
  cases hr
  simp only [Instr.wellFormed, Word.inRange, decide_eq_true_eq] at h
  exact reserved_selects 26 (by decide) code (by omega) (by omega)

theorem cmdReservedBit27 (code : Word) : Statement (.cmdReservedBit27 code) := by
  intro h r hr
  cases hr
  simp only [Instr.wellFormed, Word.inRange, decide_eq_true_eq] at h
  exact reserved_selects 27 (by decide) code (by omega) (by omega)

theorem cmdReservedBit28 (code : Word) : Statement (.cmdReservedBit28 code) := by
  intro h r hr
  cases hr
  simp only [Instr.wellFormed, Word.inRange, decide_eq_true_eq] at h
  exact reserved_selects 28 (by decide) code (by omega) (by omega)

theorem cmdReservedBit29 (code : Word) : Statement (.cmdReservedBit29 code) := by
  intro h r hr
  cases hr
  simp only [Instr.wellFormed, Word.inRange, decide_eq_true_eq] at h
  exact reserved_selects 29 (by decide) code (by omega) (by omega)

theorem cmdReservedBit30 (code : Word) : Statement (.cmdReservedBit30 code) := by
  intro h r hr
  cases hr
  simp only [Instr.wellFormed, Word.inRange, decide_eq_true_eq] at h
  exact reserved_selects 30 (by decide) code (by omega) (by omega)

theorem cmdReservedBit31 (code : Word) : Statement (.cmdReservedBit31 code) := by
  intro h r hr
  cases hr
  simp only [Instr.wellFormed, Word.inRange, decide_eq_true_eq] at h
  exact reserved_selects 31 (by decide) code (by omega) (by omega)

theorem wrStatus (data : Word) : Statement (.wrStatus data) := by
  intro _ r hr
  cases hr
  exact write_selects 0x04 0xFF 0 0 (by decide) (by decide) 0x04 data (by decide) (Nat.and_zero _)

theorem wrCtrl (data : Word) : Statement (.wrCtrl data) := by
  intro _ r hr
  cases hr
  exact write_selects 0x08 0xFF 0 0 (by decide) (by decide) 0x08 data (by decide) (Nat.and_zero _)

theorem wrCfgF (data : Word) : Statement (.wrCfgF data) := by
  intro _ r hr
  cases hr
  exact write_selects 0x0C 0xFF 0 0 (by decide) (by decide) 0x0C data (by decide) (Nat.and_zero _)

theorem wrCfgWnd (data : Word) : Statement (.wrCfgWnd data) := by
  intro _ r hr
  cases hr
  exact write_selects 0x10 0xFF 0 0 (by decide) (by decide) 0x10 data (by decide) (Nat.and_zero _)

theorem wrCfgLat (data : Word) : Statement (.wrCfgLat data) := by
  intro _ r hr
  cases hr
  exact write_selects 0x14 0xFF 0 0 (by decide) (by decide) 0x14 data (by decide) (Nat.and_zero _)

theorem wrCfgThr (data : Word) : Statement (.wrCfgThr data) := by
  intro _ r hr
  cases hr
  exact write_selects 0x18 0xFF 0 0 (by decide) (by decide) 0x18 data (by decide) (Nat.and_zero _)

theorem wrEffFIllegal (data : Word) : Statement (.wrEffFIllegal data) := by
  intro _ r hr
  cases hr
  exact write_selects 0x1C 0xFF 0 0 (by decide) (by decide) 0x1C data (by decide) (Nat.and_zero _)

theorem wrEffOIllegal (data : Word) : Statement (.wrEffOIllegal data) := by
  intro _ r hr
  cases hr
  exact write_selects 0x20 0xFF 0 0 (by decide) (by decide) 0x20 data (by decide) (Nat.and_zero _)

theorem wrEffWIllegal (data : Word) : Statement (.wrEffWIllegal data) := by
  intro _ r hr
  cases hr
  exact write_selects 0x24 0xFF 0 0 (by decide) (by decide) 0x24 data (by decide) (Nat.and_zero _)

theorem wrEffLIllegal (data : Word) : Statement (.wrEffLIllegal data) := by
  intro _ r hr
  cases hr
  exact write_selects 0x28 0xFF 0 0 (by decide) (by decide) 0x28 data (by decide) (Nat.and_zero _)

theorem wrRatioIllegal (data : Word) : Statement (.wrRatioIllegal data) := by
  intro _ r hr
  cases hr
  exact write_selects 0x2C 0xFF 0 0 (by decide) (by decide) 0x2C data (by decide) (Nat.and_zero _)

theorem wrAvgIllegal (data : Word) : Statement (.wrAvgIllegal data) := by
  intro _ r hr
  cases hr
  exact write_selects 0x30 0xFF 0 0 (by decide) (by decide) 0x30 data (by decide) (Nat.and_zero _)

theorem wrInLevelIllegal (data : Word) : Statement (.wrInLevelIllegal data) := by
  intro _ r hr
  cases hr
  exact write_selects 0x34 0xFF 0 0 (by decide) (by decide) 0x34 data (by decide) (Nat.and_zero _)

theorem wrOutLevelIllegal (data : Word) : Statement (.wrOutLevelIllegal data) := by
  intro _ r hr
  cases hr
  exact write_selects 0x38 0xFF 0 0 (by decide) (by decide) 0x38 data (by decide) (Nat.and_zero _)

theorem wrReserved3C (data : Word) : Statement (.wrReserved3C data) := by
  intro _ r hr
  cases hr
  exact write_selects 0x3C 0xFF 0 0 (by decide) (by decide) 0x3C data (by decide) (Nat.and_zero _)

theorem wrUnmapped40To7F (offset : Offset) (data : Word) : Statement (.wrUnmapped40To7F offset data) := by
  intro h r hr
  cases hr
  exact write_selects 0x40 0xC0 0 0 (by decide) (by decide) offset data
    (key_in40To7F offset h) (Nat.and_zero _)

theorem wrUnmapped80ToFF (offset : Offset) (data : Word) : Statement (.wrUnmapped80ToFF offset data) := by
  intro h r hr
  cases hr
  exact write_selects 0x80 0x80 0 0 (by decide) (by decide) offset data
    (key_in80ToFF offset h) (Nat.and_zero _)

theorem wrMisaligned1 (offset : Offset) (data : Word) : Statement (.wrMisaligned1 offset data) := by
  intro h r hr
  cases hr
  exact write_selects 0x01 0xC3 0 0 (by decide) (by decide) offset data
    (key_misaligned1 offset h) (Nat.and_zero _)

theorem wrMisaligned2 (offset : Offset) (data : Word) : Statement (.wrMisaligned2 offset data) := by
  intro h r hr
  cases hr
  exact write_selects 0x02 0xC3 0 0 (by decide) (by decide) offset data
    (key_misaligned2 offset h) (Nat.and_zero _)

theorem wrMisaligned3 (offset : Offset) (data : Word) : Statement (.wrMisaligned3 offset data) := by
  intro h r hr
  cases hr
  exact write_selects 0x03 0xC3 0 0 (by decide) (by decide) offset data
    (key_misaligned3 offset h) (Nat.and_zero _)

theorem rdCmd : Statement .rdCmd := by
  intro _ r hr
  cases hr
  decide

theorem rdStatus : Statement .rdStatus := by
  intro _ r hr
  cases hr
  decide

theorem rdCtrl : Statement .rdCtrl := by
  intro _ r hr
  cases hr
  decide

theorem rdCfgF : Statement .rdCfgF := by
  intro _ r hr
  cases hr
  decide

theorem rdCfgWnd : Statement .rdCfgWnd := by
  intro _ r hr
  cases hr
  decide

theorem rdCfgLat : Statement .rdCfgLat := by
  intro _ r hr
  cases hr
  decide

theorem rdCfgThr : Statement .rdCfgThr := by
  intro _ r hr
  cases hr
  decide

theorem rdEffF : Statement .rdEffF := by
  intro _ r hr
  cases hr
  decide

theorem rdEffO : Statement .rdEffO := by
  intro _ r hr
  cases hr
  decide

theorem rdEffW : Statement .rdEffW := by
  intro _ r hr
  cases hr
  decide

theorem rdEffL : Statement .rdEffL := by
  intro _ r hr
  cases hr
  decide

theorem rdRatio : Statement .rdRatio := by
  intro _ r hr
  cases hr
  decide

theorem rdAvg : Statement .rdAvg := by
  intro _ r hr
  cases hr
  decide

theorem rdInLevel : Statement .rdInLevel := by
  intro _ r hr
  cases hr
  decide

theorem rdOutLevel : Statement .rdOutLevel := by
  intro _ r hr
  cases hr
  decide

theorem rdReserved3C : Statement .rdReserved3C := by
  intro _ r hr
  cases hr
  decide

theorem rdUnmapped40To7F (offset : Offset) : Statement (.rdUnmapped40To7F offset) := by
  intro h r hr
  cases hr
  revert h; revert offset; decide

theorem rdUnmapped80ToFF (offset : Offset) : Statement (.rdUnmapped80ToFF offset) := by
  intro h r hr
  cases hr
  revert h; revert offset; decide

theorem rdMisaligned1 (offset : Offset) : Statement (.rdMisaligned1 offset) := by
  intro h r hr
  cases hr
  revert h; revert offset; decide

theorem rdMisaligned2 (offset : Offset) : Statement (.rdMisaligned2 offset) := by
  intro h r hr
  cases hr
  revert h; revert offset; decide

theorem rdMisaligned3 (offset : Offset) : Statement (.rdMisaligned3 offset) := by
  intro h r hr
  cases hr
  revert h; revert offset; decide

theorem push (re : Word) (im : Word) : Statement (.push re im) := by
  intro _ r hr
  cases hr
  unfold Request.selects
  simp only [Bool.and_eq_true, decide_eq_true_eq]
  refine ⟨rfl, ?_⟩
  change (pushKey re im).toNat &&& 2 ^ 64 = 0
  rw [Nat.and_two_pow, BitVec.testBit_toNat, pushKey, BitVec.getLsbD_append, BitVec.getLsbD_append]
  simp

theorem pop : Statement .pop := by
  intro _ r hr
  cases hr
  decide

theorem autostep : Statement .autostep := by
  intro _ r hr
  cases hr

theorem reset : Statement .reset := by
  intro _ r hr
  cases hr
  decide

end Sys2Proof.Laws.EncodesInRow
end

