-- ==== Sys2Proof/Tests/Slice0.lean ====
section
/-!
SUPPORT. The model's own tests. Expected results are those of spec/95_test_vectors.md and of the rules' tables, named at
each test; `witness_…` theorems meet the hypotheses of the statement they are named after.
-/

open Sys2Proof Sys2Proof.Machine

/-! ### Well-formedness: an ill-formed term for each check, which the check refuses -/

theorem test_illFormed_reserved_words : (
    ([.cmdReserved6To7 0x5, .cmdReservedBit3 0x7, .cmdReservedBit4 0xF, .cmdReservedBit5 0x1F, .cmdReservedBit6 0x3F, .cmdReservedBit7 0x7F, .cmdReservedBit8 0xFF, .cmdReservedBit9 0x1FF] : List Instr) ++
    ([.cmdReservedBit10 0x3FF, .cmdReservedBit11 0x7FF, .cmdReservedBit12 0xFFF, .cmdReservedBit13 0x1FFF, .cmdReservedBit14 0x3FFF, .cmdReservedBit15 0x7FFF, .cmdReservedBit16 0xFFFF, .cmdReservedBit17 0x1FFFF] : List Instr) ++
    ([.cmdReservedBit18 0x3FFFF, .cmdReservedBit19 0x7FFFF, .cmdReservedBit20 0xFFFFF, .cmdReservedBit21 0x1FFFFF, .cmdReservedBit22 0x3FFFFF, .cmdReservedBit23 0x7FFFFF, .cmdReservedBit24 0xFFFFFF, .cmdReservedBit25 0x1FFFFFF] : List Instr) ++
    ([.cmdReservedBit26 0x3FFFFFF, .cmdReservedBit27 0x7FFFFFF, .cmdReservedBit28 0xFFFFFFF, .cmdReservedBit29 0x1FFFFFFF, .cmdReservedBit30 0x3FFFFFFF, .cmdReservedBit31 0x7FFFFFFF] : List Instr)).all (fun i => !i.wellFormed) = true := by decide

theorem test_illFormed_reserved_words_above : (
    ([.cmdReserved6To7 0x8, .cmdReservedBit3 0x10, .cmdReservedBit4 0x20, .cmdReservedBit5 0x40, .cmdReservedBit6 0x80, .cmdReservedBit7 0x100, .cmdReservedBit8 0x200, .cmdReservedBit9 0x400] : List Instr) ++
    ([.cmdReservedBit10 0x800, .cmdReservedBit11 0x1000, .cmdReservedBit12 0x2000, .cmdReservedBit13 0x4000, .cmdReservedBit14 0x8000, .cmdReservedBit15 0x10000, .cmdReservedBit16 0x20000, .cmdReservedBit17 0x40000] : List Instr) ++
    ([.cmdReservedBit18 0x80000, .cmdReservedBit19 0x100000, .cmdReservedBit20 0x200000, .cmdReservedBit21 0x400000, .cmdReservedBit22 0x800000, .cmdReservedBit23 0x1000000, .cmdReservedBit24 0x2000000, .cmdReservedBit25 0x4000000] : List Instr) ++
    ([.cmdReservedBit26 0x8000000, .cmdReservedBit27 0x10000000, .cmdReservedBit28 0x20000000, .cmdReservedBit29 0x40000000, .cmdReservedBit30 0x80000000] : List Instr)).all (fun i => !i.wellFormed) = true := by decide

theorem test_illFormed_offsets :
    ([.wrUnmapped40To7F 0x3F 0, .wrUnmapped40To7F 0x80 0, .wrUnmapped80ToFF 0x7F 0, .wrMisaligned1 0x04 0,
      .wrMisaligned1 0x41 0, .wrMisaligned2 0x05 0, .wrMisaligned3 0x06 0, .rdUnmapped40To7F 0x3F, .rdUnmapped80ToFF 0x7F,
      .rdMisaligned1 0x04, .rdMisaligned2 0x45, .rdMisaligned3 0x06] : List Instr).all (fun i => !i.wellFormed) = true := by
  decide

/-! ### Decoding: a word written out from the encoding of every operation (R30, R90, R96, R100; opcode_table.json) -/

theorem test_decode_commands :
    ([0, 1, 2, 3, 4, 5, 6, 7] : List Word).map (fun w => decodeTableWord 40 w.toNat) =
      [some .nop, some .init, some .proc, some .flush, some .setthr, some .stop, some (.cmdReserved6To7 6),
        some (.cmdReserved6To7 7)] := by decide

theorem test_decode_reserved_1 :
    ([0xC, 0x18, 0x30, 0x60, 0xC0, 0x180, 0x300, 0x600, 0xC00, 0x1800] : List Word).map
      (fun w => decodeTableWord 40 w.toNat) =
      [some (.cmdReservedBit3 0xC), some (.cmdReservedBit4 0x18), some (.cmdReservedBit5 0x30),
        some (.cmdReservedBit6 0x60), some (.cmdReservedBit7 0xC0), some (.cmdReservedBit8 0x180),
        some (.cmdReservedBit9 0x300), some (.cmdReservedBit10 0x600), some (.cmdReservedBit11 0xC00),
        some (.cmdReservedBit12 0x1800)] := by decide

theorem test_decode_reserved_2 :
    ([0x3000, 0x6000, 0xC000, 0x18000, 0x30000, 0x60000, 0xC0000, 0x180000, 0x300000, 0x600000] : List Word).map
      (fun w => decodeTableWord 40 w.toNat) =
      [some (.cmdReservedBit13 0x3000), some (.cmdReservedBit14 0x6000), some (.cmdReservedBit15 0xC000),
        some (.cmdReservedBit16 0x18000), some (.cmdReservedBit17 0x30000), some (.cmdReservedBit18 0x60000),
        some (.cmdReservedBit19 0xC0000), some (.cmdReservedBit20 0x180000), some (.cmdReservedBit21 0x300000),
        some (.cmdReservedBit22 0x600000)] := by decide

theorem test_decode_reserved_3 :
    ([0xC00000, 0x1800000, 0x3000000, 0x6000000, 0xC000000, 0x18000000, 0x30000000, 0x60000000, 0xC0000000] : List Word).map
      (fun w => decodeTableWord 40 w.toNat) =
      [some (.cmdReservedBit23 0xC00000), some (.cmdReservedBit24 0x1800000), some (.cmdReservedBit25 0x3000000),
        some (.cmdReservedBit26 0x6000000), some (.cmdReservedBit27 0xC000000), some (.cmdReservedBit28 0x18000000),
        some (.cmdReservedBit29 0x30000000), some (.cmdReservedBit30 0x60000000), some (.cmdReservedBit31 0xC0000000)] := by decide

theorem test_decode_writes :
    ([0x4C2200000, 0x8C2200000, 0xCC2200000, 0x10C2200000, 0x14C2200000, 0x18C2200000, 0x1CC2200000, 0x20C2200000,
      0x24C2200000, 0x28C2200000, 0x2CC2200000, 0x30C2200000, 0x34C2200000, 0x38C2200000, 0x3CC2200000] : List Nat).map (decodeTableWord 40) =
      [some (.wrStatus 0xC2200000), some (.wrCtrl 0xC2200000), some (.wrCfgF 0xC2200000),
        some (.wrCfgWnd 0xC2200000), some (.wrCfgLat 0xC2200000), some (.wrCfgThr 0xC2200000),
        some (.wrEffFIllegal 0xC2200000), some (.wrEffOIllegal 0xC2200000), some (.wrEffWIllegal 0xC2200000),
        some (.wrEffLIllegal 0xC2200000), some (.wrRatioIllegal 0xC2200000), some (.wrAvgIllegal 0xC2200000),
        some (.wrInLevelIllegal 0xC2200000), some (.wrOutLevelIllegal 0xC2200000), some (.wrReserved3C 0xC2200000)] := by decide

theorem test_decode_writes_of_no_register :
    ([0x4400000001, 0xFC00000001, 0x0100000001, 0x3A00000001, 0x2300000001] : List Nat).map (decodeTableWord 40) =
      [some (.wrUnmapped40To7F 0x44 1), some (.wrUnmapped80ToFF 0xFC 1), some (.wrMisaligned1 0x01 1),
        some (.wrMisaligned2 0x3A 1), some (.wrMisaligned3 0x23 1)] := by decide

theorem test_decode_reads :
    ([0x00, 0x04, 0x08, 0x0C, 0x10, 0x14, 0x18, 0x1C, 0x20, 0x24, 0x28, 0x2C, 0x30, 0x34, 0x38, 0x3C] :
      List Nat).map (decodeTableWord 8) =
      [some .rdCmd, some .rdStatus, some .rdCtrl, some .rdCfgF, some .rdCfgWnd, some .rdCfgLat,
        some .rdCfgThr, some .rdEffF, some .rdEffO, some .rdEffW, some .rdEffL, some .rdRatio,
        some .rdAvg, some .rdInLevel, some .rdOutLevel, some .rdReserved3C] := by decide

theorem test_decode_reads_of_no_register :
    ([0x7F, 0x80, 0x3D, 0x06, 0x03] : List Nat).map (decodeTableWord 8) =
      [some (.rdUnmapped40To7F 0x7F), some (.rdUnmapped80ToFF 0x80), some (.rdMisaligned1 0x3D), some (.rdMisaligned2 0x06),
        some (.rdMisaligned3 0x03)] := by decide

/-- R90: `{dir, re, im}`; the sample `(1.0, 0.5)` and its result fields in a POP. -/
theorem test_decode_transfers :
    decodeTableWord 72 0x03F8000003F000000 = some (.push 0x3F800000 0x3F000000) ∧
    decodeTableWord 72 0x13F8000003F000000 = some .pop ∧ decode .reset = .ok .reset := by decide

/-- R61: no size but 4 is an operation. -/
theorem test_decode_wrong_size :
    decode (.write 0x0C 64 2) = .error (.accessSize 2) ∧ decode (.read 0x04 1) = .error (.accessSize 1) := by decide

/-! ### Operand forms -/

/-- V1: `CFG_F`, `CFG_WND`, `CFG_LAT` and the derived `F`, `O`, `W`, `L`. -/
theorem test_derive_V1 :
    ([(0, 0, 0), (32, 4, 8), (32, 1000, 8), (64, 8, 8), (64, 9, 8), (127, 3, 1), (128, 4, 4), (1024, 255, 4294967295),
      (65536, 4294967295, 1)] : List (Word × Word × Word)).map
        (fun p => (deriveF p.1, deriveO p.1, deriveW p.1 p.2.1, deriveL p.2.2)) =
      [(32, 1, 1, 1), (32, 1, 2, 8), (32, 1, 8, 8), (64, 1, 4, 8), (64, 1, 4, 8), (127, 1, 1, 1), (128, 2, 2, 4),
        (1024, 16, 127, 4294967295), (65536, 1024, 127, 1)] := by decide

/-- V1 and V12: the lengths of the suggested part, and of a part whose FIFOs hold 31 samples. -/
theorem test_lengthFits_V1_V12 :
    lengthFits 65536 131072 131072 65536 = true ∧ lengthFits 65536 131072 131072 65537 = false ∧
    lengthFits 65536 31 31 32 = true ∧ lengthFits 65536 31 31 64 = false := by decide

/-- V1: patterns that are no threshold. -/
theorem test_dec32_V1 : ([0x7FC00000, 0x7F800000, 0xFF800000, 0xC2200000, 0x00000000] : List Word).map isFinite32 =
    [false, false, false, true, true] := by decide

/-- R12: the examples 1.0, 0.5, 0.4375, 5.0, -40.0, 15.5, 23.25, 20.34375. -/
theorem test_value32_R12 :
    ([0x3F800000, 0x3F000000, 0x3EE00000, 0x40A00000, 0xC2200000, 0x41780000, 0x41BA0000, 0x41A2C000] : List Word).map value32 =
      [1, 1 / 2, 7 / 16, 5, -40, 31 / 2, 93 / 4, 651 / 32] := by decide +kernel

/-- V1, V2: 0.01, 0.1, 10, 20.34375 and a number above the largest finite one, encoded. -/
theorem test_encode32_V1 :
    ([1 / 100, 1 / 10, 10, 651 / 32, -2 ^ 128] : List ℚ).map encode32 =
      [0x3C23D70A, 0x3DCCCCCD, 0x41200000, 0x41A2C000, 0xFF800000] := by decide +kernel

/-- S1: nine bytes of a REAL stream are two samples. -/
theorem test_bytes_S1 :
    samplesOfBytes .little .real [0x00, 0x00, 0x80, 0x3F, 0x00, 0x00, 0x00, 0x3F, 0xAA] =
      [⟨0x3F800000, 0⟩, ⟨0x3F000000, 0⟩] := by decide

/-! ### The gate -/

/-- V13: window counts for `F = 32`, `W = 2`, open at 0, 1, 5, 31; the sliding form gives the same (R189). -/
def test_marks_V13 : List Bool := (List.range 32).map fun i => i == 0 || i == 1 || i == 5 || i == 31

theorem test_counts_V13 :
    counts 32 2 test_marks_V13 =
      [3, 3, 2, 1, 1, 1, 1, 1, 0, 0, 0, 0, 0, 0, 0, 0, 0, 0, 0, 0, 0, 0, 0, 0, 0, 0, 0, 0, 0, 0, 1, 2] := by decide

theorem test_slidingCount_V13 :
    ([0, 1, 2, 3, 30, 31].map (slidingCount 32 2 test_marks_V13)) = [3, 3, 2, 1, 1, 2] := by decide

/-- Exact fractions, for the worked examples whose values are fractions; `sqrt` knows 1/4 and 1. -/
def test_numQ : Numerics ℚ where
  zero := 0
  one := 1
  ofNat n := n
  add := (· + ·)
  sub := (· - ·)
  mul := (· * ·)
  div := (· / ·)
  sqrt x := if x = 1 / 4 then 1 / 2 else x
  gt x y := decide (y < x)
  sumF := List.sum
  maxF l := l.foldl max (l.headD 0)
  db2ratio d := d
  decFinite := value32
  enc32 := encode32
  fwd v k := v.getD k ⟨0, 0⟩
  inv v k := v.getD k ⟨0, 0⟩

theorem test_foldl_max_zero (l : List ℚ) (h : ∀ x ∈ l, x = 0) : l.foldl max 0 = 0 := by
  induction l with
  | nil => rfl
  | cons x l ih =>
    rw [List.foldl_cons, h x (by simp), max_self]
    exact ih fun y hy => h y (by simp [hy])

theorem test_getD_zero (v : List (Cplx ℚ)) (k : Nat) (h : ∀ z ∈ v, z = ⟨0, 0⟩) : v.getD k ⟨0, 0⟩ = ⟨0, 0⟩ := by
  rw [List.getD_eq_getElem?_getD]
  cases hv : v[k]? with
  | none => rfl
  | some z => exact h z (List.mem_of_getElem? hv)

theorem test_numQ_laws : test_numQ.ZeroLaws where
  zero_add := zero_add
  add_zero := add_zero
  zero_mul := zero_mul
  mul_zero := mul_zero
  sub_zero := sub_zero
  zero_div k _ := zero_div _
  sumF_zero l h := List.sum_eq_zero h
  maxF_zero l h := by
    cases l with
    | nil => rfl
    | cons x l =>
      change (x :: l).foldl max x = 0
      rw [h x (by simp)]
      exact test_foldl_max_zero _ fun y hy => by
        rcases List.mem_cons.1 hy with rfl | hy
        exacts [rfl, h y (by simp [hy])]
  gt_zero := by decide +kernel
  fwd_zero := test_getD_zero
  inv_zero := test_getD_zero
  dec_zero := by decide +kernel
  enc_zero := by decide +kernel
  ofNat_zero := rfl
  ofNat_one := Nat.cast_one

/-- A part with that record and the sizes R6 suggests, on which the machine of any part can be evaluated. -/
def test_part : Params ℚ where
  num := test_numQ
  fmax := 65536
  capIn := 131072
  capOut := 131072
  supported := lengthFits 65536 131072 131072
  byteOrder := .little
  nonFinite _ _ _ := 0
  nextAgent _ := .engine

theorem test_partOk : PartOk test_part := ⟨test_numQ_laws, by decide, by decide, by decide, fun _ h => h⟩

/-- Bins with the levels of R194 (c): 961 at bin 0 and 1 at every other. -/
def test_bins_R194 : List (Cplx ℚ) := ⟨31, 0⟩ :: List.replicate 31 ⟨0, -1⟩

/-- R194 (c), V5: average 15.5, bin 0 alone open at 0 dB, so four bins pass at gain 1/2. -/
theorem test_gate_R194 :
    newAverage test_numQ 8 0 test_bins_R194 = 31 / 2 ∧
    gateBins test_numQ 32 2 8 1 0 test_bins_R194 =
      [⟨31 / 2, 0⟩, ⟨0, -1 / 2⟩, ⟨0, -1 / 2⟩] ++ List.replicate 28 ⟨0, 0⟩ ++ [⟨0, -1 / 2⟩] := by decide +kernel

/-- V11: open bins of the same spectrum at ratios 0.01, 1, 10 and 100. -/
theorem test_openMarks_V11 :
    ([1 / 100, 1, 10, 100] : List ℚ).map (fun r => (openMarks test_numQ 8 r 0 test_bins_R194).count true) = [32, 1, 1, 0] := by
  decide +kernel

/-- V2: the averages of three blocks, 15.5, 23.25 and 20.34375: fast attack, then slow decay with `L = 8`. -/
theorem test_smooth_V2 :
    smooth test_numQ 8 0 31 = 31 / 2 ∧ smooth test_numQ 8 (31 / 2) 31 = 93 / 4 ∧ smooth test_numQ 8 (93 / 4) 0 = 651 / 32 := by
  decide +kernel

/-- R157, `O = 2`: new samples weigh 0 and 1/2; the tail is the last two. -/
theorem test_crossfade_O2 :
    crossfade test_numQ 2 [⟨8, 4⟩, ⟨6, 2⟩, ⟨5, 5⟩, ⟨1, 0⟩] [⟨3, 1⟩, ⟨2, 8⟩] = [⟨3, 1⟩, ⟨4, 5⟩] ∧
    newCarry test_numQ 4 2 [⟨8, 4⟩, ⟨6, 2⟩, ⟨5, 5⟩, ⟨1, 0⟩] = [⟨5, 5⟩, ⟨1, 0⟩] := by decide +kernel

/-- R158: a REAL sample drops the imaginary part, a COMPLEX one keeps it. -/
theorem test_emit_kinds :
    blockOut test_numQ 1 2 .real [⟨9, 9⟩, ⟨1, 1 / 2⟩] [⟨5, 1⟩] = [⟨0x40A00000, 0⟩, ⟨0x3F800000, 0⟩] ∧
    blockOut test_numQ 1 2 .complex [⟨9, 9⟩, ⟨1, 1 / 2⟩] [⟨5, 1⟩] =
      [⟨0x40A00000, 0x3F800000⟩, ⟨0x3F800000, 0x3F000000⟩] := by decide +kernel

/-! ### Operations on small states -/

/-- A stage of the smallest length, fresh, over a carrier whose zero is given. -/
def test_stage {S : Type} (zero : S) : State S :=
  { State.cleared zero with
    st := .idle, F := 32, O := 1, W := 1, L := 1
    fin := List.replicate 32 ⟨zero, zero⟩, carry := [⟨zero, zero⟩] }

/-- The same with a block of zero samples buffered, in background mode, at the engine's turn. -/
def test_full {S : Type} (zero : S) : State S :=
  { test_stage zero with auto := true, inq := List.replicate 31 ⟨0, 0⟩, turn := .engine }

/-- These two in the machine of `Sys2Proof.core`, and over fractions. -/
def test_live : State := test_stage Scalar.zero
def test_ready : State := test_full Scalar.zero
def test_liveQ : State ℚ := test_stage 0
def test_readyQ : State ℚ := test_full 0

/-- The word a register reads as after an operation. -/
def test_regAfter (i : Instr) (s : State ℚ) (r : Reg) : Option Word :=
  match execOf test_part i s with
  | .next t => some (t.reg test_part r)
  | _ => none

/-- The answer an operation gives. -/
def test_replyAfter (i : Instr) (s : State ℚ) : Option Reply :=
  match execOf test_part i s with
  | .next t => some t.reply
  | _ => none

/-- P4 rows 1, 2 and 5: PROC in UNCONF, a write of EFF_F, a reserved command: STATUS after each. -/
theorem test_errors_P4 :
    test_regAfter .proc (State.cleared (0 : ℚ)) .status = some 0x200 ∧ test_regAfter (.wrEffFIllegal 5) (State.cleared (0 : ℚ)) .status = some 0x400 ∧
    test_regAfter (.cmdReserved6To7 6) (State.cleared (0 : ℚ)) .status = some 0x200 := by decide +kernel

/-- P4 row 4: CLRERR. P4 row 6: one flag alone. -/
theorem test_wrStatus_P4 :
    test_regAfter (.wrStatus 0x700) { (State.cleared (0 : ℚ)) with errCfg := true, errSeq := true, errBus := true } .status = some 0 ∧
    test_regAfter (.wrStatus 0x200) { (State.cleared (0 : ℚ)) with errCfg := true, errSeq := true } .status = some 0x100 ∧
    test_regAfter (.wrStatus 0x3F) { (State.cleared (0 : ℚ)) with errBus := true } .status = some 0x400 := by decide +kernel

/-- V14: CTRL keeps two bits. -/
theorem test_wrCtrl_V14 : test_regAfter (.wrCtrl 0xFFFFFFFF) (State.cleared (0 : ℚ)) .ctrl = some 3 := by decide +kernel

/-- P4 row 7: a NaN threshold is a configuration error (the length 32 is supported). -/
theorem test_init_P4 : test_regAfter .init { (State.cleared (0 : ℚ)) with cfgThr := 0x7FC00000 } .status = some 0x100 := by decide +kernel

/-- R128 (a): INIT with all staging registers 0. -/
theorem test_init_R128 : ([.effF, .effO, .effW, .effL, .status, .avg] : List Reg).map (test_regAfter .init (State.cleared (0 : ℚ))) =
    [some 32, some 1, some 1, some 1, some 0x11, some 0] := by decide +kernel

/-- R128 (c): a length above FMAX. -/
theorem test_init_R128_long :
    test_regAfter .init { State.cleared (0 : ℚ) with cfgF := 70000 } .status = some 0x100 := by decide +kernel

/-- R67: a POP on an empty `outq` holds the PROC issued after it; the AUTOSTEP of the background stage happens meanwhile. -/
theorem test_order_R67 :
    { test_readyQ with host := [.transfer popKey, commandWrite 2] }.nextMove test_part = .engine ∧
    { test_liveQ with host := [.transfer popKey, commandWrite 2] }.nextMove test_part = .wait := by decide +kernel

/-- P4 row 12: an infinite threshold is dropped. -/
theorem test_setthr_P4 : exec .setthr { test_live with cfgThr := 0x7F800000 } = .next { test_live with cfgThr := 0x7F800000 } := rfl

/-- P4 row 11: FLUSH without input does nothing. -/
theorem test_flush_P4 : exec .flush test_live = .next test_live := rfl

/-- P4 row 13 and V14: reads of 0x3C and of a misaligned offset return 0; a read of CMD returns 0 and raises nothing. -/
theorem test_reads_V14 :
    test_replyAfter .rdReserved3C test_liveQ = some (.word 0) ∧
    test_regAfter .rdReserved3C (State.cleared (0 : ℚ)) .status = some 0x400 ∧
    test_replyAfter (.rdMisaligned2 0x06) test_liveQ = some (.word 0) ∧
    test_regAfter .rdCmd (State.cleared (0 : ℚ)) .status = some 0 := by decide +kernel

/-- P1 row 14: POP returns samples oldest first. -/
theorem test_pop_P1 :
    test_replyAfter .pop { (State.cleared (0 : ℚ)) with outq := [⟨0x3F800000, 0⟩, ⟨0, 0⟩] } = some (.sample ⟨0x3F800000, 0⟩) := by decide +kernel

/-- V14: a two-byte write of CFG_F is a bus error and writes nothing. -/
theorem test_wrongSize_V14 :
    step { State.reset with host := [.write 0x0C 64 2] } =
      .next { State.reset with errBus := true, turn := thePart.nextAgent 0, tick := 1 } := rfl

/-- The first step after reset, with `WR CFG_F, 32` issued (P1 row 2), runs it. -/
theorem test_first_step : step (State.reset.withFetchWord 40 0x0C00000020) =
    .next { State.reset with cfgF := 32, turn := thePart.nextAgent 0, tick := 1 } := rfl

/-! ### Witnesses of the statements' hypotheses -/

theorem test_lengths : test_ready.inq.length = 31 ∧ test_ready.outq.length = 0 ∧ test_ready.F - test_ready.O = 31 := by decide

theorem test_cap : 31 ≤ thePart.capIn ∧ 31 ≤ thePart.capOut := ⟨Nat.le_max_left _ _, Nat.le_max_left _ _⟩

theorem test_ready_canProcess : test_ready.canProcess thePart = true := by
  rw [State.canProcess_iff]
  exact ⟨rfl, by decide, Nat.le_trans (by decide) test_cap.2⟩

theorem test_readyQ_inv : test_readyQ.Inv test_part where
  in_level := by decide
  out_level := Nat.zero_le _
  unconf_empty h := by cases h
  fits := by decide
  supported _ := by decide
  overlap_eq _ := by decide
  window _ := by decide
  latency _ := by decide
  fin_length _ := by decide
  fin_tail _ i _ hi := by
    change i < 32 at hi
    change (List.replicate 32 (⟨0, 0⟩ : Cplx ℚ))[i]? = _
    rw [List.getElem?_replicate, if_pos hi]
    rfl
  carry_length _ := rfl

theorem witness_DecodeOfEncodeIsTheOperation :
    (Instr.wrCtrl 3).wellFormed = true ∧ encode (.wrCtrl 3) = some (.write 0x08 3 4) := by decide

theorem witness_DecodedOperationIsOfItsTableRow : decode (.read 0x04 4) = .ok .rdStatus := by decide

theorem witness_TableRowsAreDisjoint : (Request.read 0x04 4).selects (Instr.rdStatus).row = true := by decide

theorem witness_StepRunsTheDecodedOperation (s : State) (h : s = { State.reset with host := [.read 0x04 4] }) :
    s.host = .read 0x04 4 :: [] ∧ decode (.read 0x04 4) = .ok .rdStatus ∧ s.holds thePart .rdStatus = false ∧
      s.autoEnabled thePart = false := by subst h; decide

/-- A POP that waits, with a read behind it. -/
theorem witness_HostStepsHappenInTheOrderIssued (s : State)
    (h : s = { State.reset with host := [.transfer popKey, .read 0x04 4] }) :
    s.host = .transfer popKey :: [.read 0x04 4] ∧ decode (.transfer popKey) = .ok .pop ∧ s.holds thePart .pop = true ∧
      step s = .next (s.grant thePart s.host) := by
  subst h
  exact ⟨rfl, by decide, rfl, rfl⟩

theorem witness_EngineStepsWhenItsTurn :
    test_ready.auto = true ∧ test_ready.canProcess thePart = true ∧ test_ready.turn = .engine ∧ test_ready.hostWaits thePart :=
  ⟨rfl, test_ready_canProcess, rfl, fun _ _ h => by cases h⟩

theorem witness_NothingMovesWhereNothingIsEnabled (s : State) (h : s = { State.reset with host := [.transfer popKey] }) :
    s.autoEnabled thePart = false ∧ s.hostWaits thePart := by
  subst h
  exact ⟨rfl, fun _ _ h => by cases h; rfl⟩

theorem witness_WrongSizeAccessRaisesBusError :
    (2 : Nat) ≠ 4 ∧ ({ State.reset with host := [.read 0x04 2] } : State).autoEnabled thePart = false ∧
      ({ State.reset with host := [.write 0x04 0 8] } : State).turn = .host := by decide

theorem witness_EngineProgressIsBounded : test_ready.autoEnabled thePart = true :=
  (State.autoEnabled_iff _ _).2 ⟨rfl, test_ready_canProcess⟩

/-- A live stage at the engine's turn, in the machine of a part; the state after reset, in that of `Sys2Proof.core`. -/
theorem witness_EveryStepKeepsTheInvariant :
    (test_readyQ.Inv test_part ∧ stepOf test_part test_readyQ = execOf test_part .autostep (test_readyQ.grant test_part [])) ∧
    step State.reset = .next (State.reset.grant thePart []) := ⟨⟨test_readyQ_inv, rfl⟩, rfl⟩

/-- The cases of INIT: a live stage; UNCONF; in the machine of a part also a length not supported, a threshold without a
value, and legal ones. -/
theorem witness_InitMakesAStageOrRefuses :
    test_live.st = .idle ∧ State.reset.st = .unconf ∧
    test_part.supported (max 32 (70000 : Word).toNat) = false ∧ dec32 test_part.num 0x7FC00000 = none ∧
    test_part.supported (max 32 (0 : Word).toNat) = true ∧ dec32 test_part.num 0 = some 0 := by
  refine ⟨rfl, rfl, by decide, rfl, by decide, by decide +kernel⟩

theorem witness_SupportedLengthsFit : PartOk test_part ∧ test_part.supported 32 = true := ⟨test_partOk, by decide⟩

theorem witness_SetthrReplacesTheRatio :
    State.reset.st = .unconf ∧ test_live.st = .idle ∧ dec32 thePart.num 0x7F800000 = none ∧
      dec32 thePart.num test_live.cfgThr = some (thePart.num.decFinite 0) := ⟨rfl, rfl, rfl, rfl⟩

theorem witness_StopDestroysTheStage : test_live.st = .idle ∧ State.reset.st = .unconf := by decide

theorem witness_ProcRunsAFullBlock :
    (test_ready.st = .idle ∧ test_ready.F - test_ready.O ≤ test_ready.inq.length ∧
      test_ready.F - test_ready.O ≤ thePart.capOut - test_ready.outq.length) ∧ ¬(State.reset.st = .idle) :=
  ⟨(State.canProcess_iff _ _).1 test_ready_canProcess, by decide⟩

/-- The four cases of FLUSH: no stage, no input, no room (a full `outq`), and a block. -/
theorem witness_FlushRunsWhatIsLeft (full : State)
    (h : full = { test_live with inq := [⟨0, 0⟩], outq := List.replicate thePart.capOut ⟨0, 0⟩ }) :
    State.reset.st = .unconf ∧ (test_live.st = .idle ∧ min test_live.inq.length (test_live.F - test_live.O) = 0) ∧
    (full.st = .idle ∧ min full.inq.length (full.F - full.O) = 1 ∧ thePart.capOut - full.outq.length < 1) ∧
    (test_ready.st = .idle ∧ min test_ready.inq.length (test_ready.F - test_ready.O) = 31 ∧
      31 ≤ thePart.capOut - test_ready.outq.length) := by
  subst h
  exact ⟨rfl, by decide, ⟨rfl, rfl, by simp⟩, rfl, by decide, Nat.le_trans (by decide) test_cap.2⟩

theorem witness_AutostepIsALegalProc : (test_ready.auto = true ∧ test_ready.canProcess thePart = true) ∧ test_live.auto = false :=
  ⟨⟨rfl, test_ready_canProcess⟩, rfl⟩

theorem witness_PushAppendsOrWaits (full : State) (h : full = { test_live with inq := List.replicate thePart.capIn ⟨0, 0⟩ }) :
    (test_live.st = .idle ∧ test_live.inq.length < thePart.capIn) ∧ ¬(full.inq.length < thePart.capIn) ∧ State.reset.st ≠ .idle := by
  subst h
  exact ⟨⟨rfl, Nat.lt_of_lt_of_le (by decide) test_cap.1⟩, by simp, by decide⟩

theorem witness_PopReturnsTheOldestSample (s : State) (h : s = { State.reset with outq := [⟨1, 2⟩, ⟨3, 4⟩] }) :
    s.outq = ⟨1, 2⟩ :: [⟨3, 4⟩] ∧ State.reset.outq = [] := by subst h; decide

theorem witness_InertAfterReset : exec .reset test_ready = .next (test_ready.resetBlock thePart) ∧ 1 < (6 : Word).toNat :=
  ⟨rfl, by decide⟩

theorem witness_ResetKeepsTheHostsSide : exec .reset test_ready = .next (test_ready.resetBlock thePart) ∧
    test_ready.host = test_live.host ∧ test_ready.tick = test_live.tick ∧ test_ready.reply = test_live.reply ∧
    test_ready.turn = ({ test_live with turn := .engine } : State).turn := ⟨rfl, rfl, rfl, rfl, rfl⟩

theorem witness_ReservedCommandsRaiseSequenceError : 6 ≤ (0xFFFFFFFF : Word).toNat := by decide

theorem witness_LifecycleChangesInThreeWays :
    exec .stop test_live = .next test_live.stopStage ∧ test_live.stopStage.st ≠ test_live.st := ⟨rfl, by decide⟩

theorem witness_ParametersChangeOnlyAtInit : exec (.wrCfgF 64) test_live = .next (test_live.setCfgF 64) ∧
    Instr.wrCfgF 64 ≠ .init ∧ Instr.wrCfgF 64 ≠ .reset ∧ Instr.wrCfgF 64 ≠ .setthr := ⟨rfl, by decide, by decide, by decide⟩

theorem witness_FifoEndsHaveOneOwner :
    exec .pop test_ready = .next test_ready ∧ ({ test_live with inq := List.replicate thePart.capIn ⟨0, 0⟩ } : State).inq.length = thePart.capIn :=
  ⟨rfl, by simp⟩

theorem witness_BlocksEmitAsManyAsTheyTake :
    Instr.proc ∈ [Instr.proc, .flush, .autostep] ∧ exec .proc test_ready = .next (test_ready.runBlock thePart test_ready.block) :=
  ⟨by decide, by simp only [exec, execProc, State.procCommand, test_ready_canProcess]; rfl⟩

theorem witness_FlagsAreStickyAndRaisedOneAtATime (s : State) (h : s = { test_live with errCfg := true }) :
    exec (.wrAvgIllegal 1) s = .next { s with errBus := true } ∧ s.flag .cfg = true ∧ s.flag .bus = false ∧
      ({ s with errBus := true } : State).flag .bus = true := by subst h; exact ⟨rfl, rfl, rfl, rfl⟩

theorem witness_FlagsAreReadByNothing (s' : State) (h : s' = { State.reset with errSeq := true }) :
    State.reset.sameButFlags s' ∧ exec .stop State.reset = .next { State.reset with errSeq := true } ∧
      exec .stop s' = .next s' := by subst h; exact ⟨rfl, rfl, rfl⟩

theorem witness_StagingIsNotLive (s' : State) (h : s' = { test_live with cfgF := 64 }) :
    test_live.sameButStaging s' ∧ exec .stop test_live = .next test_live.stopStage ∧ exec .stop s' = .next s'.stopStage ∧
      Instr.stop ∉ [Instr.init, .setthr, .rdCtrl, .rdCfgF, .rdCfgWnd, .rdCfgLat, .rdCfgThr] := by
  subst h; exact ⟨rfl, rfl, rfl, by decide⟩

theorem witness_CanProcessStaysUntilABlock :
    exec .stop test_ready = .next test_ready.stopStage ∧ test_ready.stopStage.canProcess thePart ≠ test_ready.canProcess thePart ∧
      test_ready.canProcess thePart = true := by
  refine ⟨rfl, ?_, test_ready_canProcess⟩
  rw [test_ready_canProcess]; decide

theorem witness_LoadWritesTheSamplesTaken (c : State ℚ) (h : c = { test_readyQ with mode := .complex }) :
    1 ≤ test_readyQ.inq.length ∧ test_readyQ.inq[0]? = some ⟨0, 0⟩ ∧ dec32 test_part.num 0 = some (value32 0) ∧
      test_readyQ.mode = .real ∧ c.mode = .complex ∧ c.inq[0]? = some ⟨0, 0⟩ := by
  subst h; exact ⟨by decide, by decide, rfl, rfl, rfl, by decide⟩

theorem witness_ComparatorsFollowTheRules (lv : List ℚ) (h : lv = levels test_numQ test_bins_R194) :
    lv = test_bins_R194.map (fun z => test_numQ.add (test_numQ.mul z.re z.re) (test_numQ.mul z.im z.im)) ∧
      lv[0]? = some 961 := by subst h; exact ⟨rfl, by decide +kernel⟩

theorem witness_WindowCountsOpenBinsAround : 2 * 2 ≤ 32 ∧ 0 < 32 ∧ -((2 : Nat) : ℤ) ≤ 1 ∧ (1 : ℤ) < (2 : Nat) := by decide

/-- V13: a count that meets the recurrence, the counts of the vector. -/
theorem witness_SlidingCountIsTheWindowCount (c : Nat → ℤ) (h : c = fun i => (windowCount 32 2 test_marks_V13 i : ℤ)) :
    c 0 = ∑ d ∈ Finset.Ico (-((2 : Nat) : ℤ)) (2 : Nat), (mark test_marks_V13 (d % (32 : Nat)).toNat : ℤ) ∧
      ∀ i, i + 1 < 32 → c (i + 1) =
        c i + mark test_marks_V13 ((i + 2) % 32) - mark test_marks_V13 (((i : ℤ) - (2 : Nat)) % (32 : Nat)).toNat := by
  subst h
  refine ⟨by decide, fun i hi => ?_⟩
  have h : ∀ j : Fin 31, (windowCount 32 2 test_marks_V13 (j + 1) : ℤ) =
      windowCount 32 2 test_marks_V13 j + mark test_marks_V13 ((j + 2) % 32) -
        mark test_marks_V13 (((j : ℕ) - (2 : Nat) : ℤ) % (32 : Nat)).toNat := by decide
  exact h ⟨i, by omega⟩

/-- R194 (c): bin 0 has count 1, bin 3 has count 0. -/
theorem witness_GainMaskScalesEachBin :
    test_bins_R194.length = 32 ∧ test_bins_R194[0]? = some ⟨31, 0⟩ ∧ test_bins_R194[3]? = some ⟨0, -1⟩ ∧
      windowCount 32 2 (openMarks test_numQ 8 1 0 test_bins_R194) 0 = 1 ∧
      windowCount 32 2 (openMarks test_numQ 8 1 0 test_bins_R194) 3 = 0 := by decide +kernel

theorem witness_CrossfadeAndTail :
    test_bins_R194.length = 32 ∧ (1 : Nat) ≤ 32 ∧ test_bins_R194[0]? = some ⟨31, 0⟩ ∧
      ([⟨5, 1⟩] : List (Cplx ℚ))[0]? = some ⟨5, 1⟩ ∧ ([⟨5, 1⟩] : List (Cplx ℝ))[0]? = some ⟨5, 1⟩ :=
  ⟨by decide, by decide, by decide +kernel, by decide +kernel, rfl⟩

/-- Sample 0 is crossfaded (`O = 1`), sample 1 is as reconstructed. -/
theorem witness_EmissionConvertsToTheSampleKind :
    (crossfade test_numQ 1 [⟨9, 9⟩, ⟨1, 2⟩] [⟨5, 1⟩])[0]? = some ⟨5, 1⟩ ∧
      ([⟨9, 9⟩, ⟨1, 2⟩] : List (Cplx ℚ))[1]? = some ⟨1, 2⟩ := by decide +kernel

theorem test_readyQ_canProcess : test_readyQ.canProcess test_part = true := by decide

theorem witness_SilenceStaysSilent :
    PartOk test_part ∧ test_readyQ.Inv test_part ∧ test_readyQ.canProcess test_part = true ∧
      (∀ z ∈ test_readyQ.carry, z = test_part.num.czero) ∧
      (∀ x ∈ test_readyQ.inq.take (test_readyQ.F - test_readyQ.O), x.re = 0 ∧ (test_readyQ.mode = .complex → x.im = 0)) ∧
      execOf test_part .proc test_readyQ = .next (test_readyQ.runBlock test_part test_readyQ.block) :=
  ⟨test_partOk, test_readyQ_inv, test_readyQ_canProcess, by decide +kernel, by decide, rfl⟩

/-- Zero input on a fresh stage: every level and the threshold are zero, and zero is not above zero. -/
theorem witness_ClosedGateEmitsTheFadedCarry :
    PartOk test_part ∧ test_readyQ.Inv test_part ∧ test_readyQ.st = .idle ∧ 31 ≤ test_readyQ.F - test_readyQ.O ∧
      31 ≤ test_readyQ.inq.length ∧ ∀ m ∈ openMarks test_part.num test_readyQ.L test_readyQ.ratio test_readyQ.avg
        (forward test_part.num (test_readyQ.loaded test_part 31)), m = false :=
  ⟨test_partOk, test_readyQ_inv, rfl, by decide, by decide, by decide +kernel⟩

/-- A part and a state of the reference machine: the state after reset, and a step from it. -/
theorem witness_AverageMovesTowardThePower (P : Params ℝ) (h : P = referencePart (fun _ _ _ => 0) fun _ => .host) (s : State ℝ)
    (hs : s = { State.cleared 0 with avg := 1 }) :
    1 ≤ 8 ∧ (0 : ℝ) ≤ 0 ∧ power numR (levels numR []) = 0 ∧ s.Inv P ∧ 0 ≤ s.avg ∧ stepOf P s = .next (s.grant P []) := by
  subst h hs
  refine ⟨by decide, le_refl _, by simp [power, levels, numR_maxF], ?_, zero_le_one, rfl⟩
  constructor <;> simp [State.cleared]

theorem witness_RaisingTheThresholdOpensNoBin : 1 ≤ 8 ∧ (0 : ℝ) ≤ 31 / 2 ∧ (1 : ℝ) ≤ 10 := by norm_num

/-- An impulse at the first sample of a block of 32 (V4, R193 (a)): every bin is 1, every level 1, the average 15.5, and at
-40 dB every bin is open. -/
theorem witness_OpenGateReconstructsTheInput (fin : List (Cplx ℝ)) (h : fin = ⟨1, 0⟩ :: List.replicate 31 ⟨0, 0⟩) :
    fin.length = 32 ∧
      ∀ i, i < 32 → windowCount 32 2 (openMarks numR 8 (1 / 100) 0 (forward numR fin)) i = 2 * 2 := by
  have hlen : fin.length = 32 := by rw [h]; simp
  refine ⟨hlen, ?_⟩
  have hbin : ∀ k, numR.fwd fin k = ⟨1, 0⟩ := by
    intro k
    have hsum : ∀ m ∈ Finset.range fin.length, m ≠ 0 → toComplex (fin.getD m ⟨0, 0⟩) *
        Complex.exp ((-1) * (2 * Real.pi * Complex.I * k * m / fin.length)) = 0 := by
      intro m hm h0
      obtain ⟨j, rfl⟩ := Nat.exists_eq_succ_of_ne_zero h0
      have hz : fin.getD (j + 1) ⟨0, 0⟩ = ⟨0, 0⟩ := by
        rw [h, List.getD_cons_succ, List.getD_eq_getElem?_getD, List.getElem?_replicate]
        split <;> rfl
      rw [Nat.succ_eq_add_one, hz, show toComplex ⟨0, 0⟩ = 0 from rfl, zero_mul]
    rw [numR_fwd, transformR, Finset.sum_eq_single_of_mem 0 (by rw [hlen]; simp) hsum, h]
    simp [toComplex, ofComplex]
  have hf : forward numR fin = List.replicate 32 ⟨1, 0⟩ := by
    refine List.eq_replicate_iff.2 ⟨by simp [forward, hlen], fun z hz => ?_⟩
    simp only [forward, List.mem_map] at hz
    obtain ⟨k, _, rfl⟩ := hz
    exact hbin k
  have hlv : levels numR (List.replicate 32 ⟨1, 0⟩) = List.replicate 32 1 := by
    rw [levels, List.map_replicate]; simp [level]
  have ha : newAverage numR 8 0 (List.replicate 32 ⟨1, 0⟩) = 31 / 2 := by
    rw [newAverage, hlv, power, numR_maxF, smooth]
    have : List.foldl max ((List.replicate 32 (1 : ℝ)).headD 0) (List.replicate 32 1) = 1 := by simp [List.replicate]
    rw [this]
    simp
    norm_num
  have ho : openMarks numR 8 (1 / 100) 0 (forward numR fin) = List.replicate 32 true := by
    rw [hf, openMarks, ha, hlv, gates, List.map_replicate]
    congr 1
    rw [numR_gt, threshold, numR_mul]
    norm_num
  rw [ho]
  decide

theorem witness_EncodingAFiniteValueIsExact : isFinite32 0x41780000 = true ∧ (0x41780000 : Word) ≠ 0x80000000 := by decide

theorem witness_SerialisedSamplesReadBack : ([0xAA] : List (BitVec 8)).length < 4 ∧ ([0xAA] : List (BitVec 8)).length < 8 := by
  decide
end

/-! ### The zero laws in the reference instance (R6, R8, R9, R13) -/

namespace Sys2Proof.Machine

/-- The fold of `max` from zero over a list of zeros. -/
theorem foldl_max_zero_of_forall_zero (l : List ℝ) (h : ∀ x ∈ l, x = 0) : l.foldl max 0 = 0 := by
  induction l with
  | nil => rfl
  | cons x l ih =>
    obtain ⟨hx, hl⟩ := List.forall_mem_cons.1 h
    rw [List.foldl_cons, hx, max_self, ih hl]

/-- `maxF` of zeros in the reference instance. -/
theorem numR_maxF_zero (l : List ℝ) (h : ∀ x ∈ l, x = 0) : numR.maxF l = 0 := by
  rw [numR_maxF]
  have hhead : l.headD 0 = 0 := by
    cases l with
    | nil => rfl
    | cons x l => exact h x List.mem_cons_self
  rw [hhead, foldl_max_zero_of_forall_zero l h]

/-- Each element of either transform of a zero vector is zero (R13): every term of the sum has a zero factor. -/
theorem transformR_zero (sign : ℂ) (v : List (Cplx ℝ)) (k : ℕ) (h : ∀ z ∈ v, z = ⟨0, 0⟩) :
    transformR sign v k = ⟨0, 0⟩ := by
  have hv : ∀ m, toComplex (v.getD m ⟨0, 0⟩) = 0 := fun m => by
    have hm : v.getD m ⟨0, 0⟩ = ⟨0, 0⟩ := by
      rw [List.eq_replicate_of_mem h, List.getD_eq_getElem?_getD, List.getElem?_getD_replicate_default_eq]
    rw [hm]; rfl
  simp only [transformR, hv, zero_mul, Finset.sum_const_zero]
  rfl

/-- The pattern 0 has the value zero (R12). -/
theorem value32_zero : value32 0 = 0 := by simp [value32]

/-- Zero encodes as the pattern 0 (R9). -/
theorem encode32_zero {K : Type} [Field K] [LinearOrder K] [IsStrictOrderedRing K] [FloorRing K] :
    encode32 (0 : K) = 0 := by
  have hle : ¬ maxFinite32 < |(0 : K)| := by
    rw [abs_zero, not_lt, maxFinite32]
    positivity
  rw [encode32, if_neg hle, if_pos (.inl rfl)]

/-- The reference instance keeps the zero laws (R8, R9). -/
theorem numR_zeroLaws : numR.ZeroLaws where
  zero_add := zero_add
  add_zero := add_zero
  zero_mul := zero_mul
  mul_zero := mul_zero
  sub_zero := sub_zero
  zero_div k _ := zero_div (k : ℝ)
  sumF_zero _ h := List.sum_eq_zero h
  maxF_zero := numR_maxF_zero
  gt_zero := Bool.eq_false_iff.2 ((numR_gt 0 0).not.2 (lt_irrefl 0))
  fwd_zero := transformR_zero (-1)
  inv_zero := transformR_zero 1
  dec_zero := by rw [numR_decFinite, value32_zero, Rat.cast_zero, numR_zero]
  enc_zero := by rw [numR_enc32, numR_zero, encode32_zero]
  ofNat_zero := Nat.cast_zero
  ofNat_one := Nat.cast_one

/-- Settles O54: the laws hold of `numR`, and the suggested sizes fit by evaluation. -/
theorem referenceKeepsTheZeroLaws : Obligations.ReferenceKeepsTheZeroLaws := fun _ _ =>
  { laws := numR_zeroLaws
    fmax_ge := show 32 ≤ 65536 by decide
    capIn_ge := show 31 ≤ 2 * 65536 by decide
    capOut_ge := show 31 ≤ 2 * 65536 by decide
    supported_fits := fun _ h => h }

end Sys2Proof.Machine

/-! ### The derived parameters (R22, R36, R122) -/

namespace Sys2Proof.Machine

theorem overlap_pos (F : Nat) : 1 ≤ overlap F := Nat.le_max_left _ _

/-- For a length of at least 32, three overlaps fit into one transform (R36). -/
theorem three_mul_overlap_le {F : Nat} (h : 32 ≤ F) : 3 * overlap F ≤ F := by
  unfold overlap
  omega

theorem le_deriveF (f : Word) : 32 ≤ deriveF f := Nat.le_max_left _ _

theorem deriveF_lt (f : Word) : deriveF f < 2 ^ 32 := max_lt (by decide) f.isLt

/-- The halves of R122 leave a window of at least one bin on each side and at most 127, inside half the transform. -/
theorem deriveW_bounds (f wnd : Word) : 1 ≤ deriveW f wnd ∧ deriveW f wnd ≤ 127 ∧ 2 * deriveW f wnd ≤ deriveF f / 2 := by
  have hF := le_deriveF f
  unfold deriveW clamp
  omega

theorem one_le_deriveL (lat : Word) : 1 ≤ deriveL lat := Nat.le_max_left _ _

theorem deriveL_lt (lat : Word) : deriveL lat < 2 ^ 32 := max_lt (by decide) lat.isLt

/-- Settles O15, from the bounds of each derived parameter. -/
theorem derivedParametersAreInRange : Obligations.DerivedParametersAreInRange := fun f wnd lat =>
  have ⟨hW1, hW127, hW2⟩ := deriveW_bounds f wnd
  ⟨le_deriveF f, deriveF_lt f, overlap_pos _, three_mul_overlap_le (le_deriveF f), hW1, hW127, hW2,
    one_le_deriveL lat, deriveL_lt lat⟩

/-! ### The invariant (R22, R33, R35, R36, R40) -/

variable {S : Type} {P : Params S} {s t : State S}

/-- The invariant speaks of nine fields only: a state that agrees in them with one that meets it meets it too. -/
theorem State.Inv.congr (h : s.Inv P) (hst : t.st = s.st) (hF : t.F = s.F) (hO : t.O = s.O) (hW : t.W = s.W)
    (hL : t.L = s.L) (hfin : t.fin = s.fin) (hcarry : t.carry = s.carry) (hin : t.inq = s.inq) (hout : t.outq = s.outq) :
    t.Inv P where
  in_level := hin ▸ h.in_level
  out_level := hout ▸ h.out_level
  unconf_empty := hst ▸ hin ▸ h.unconf_empty
  fits := by rw [hF, hO, hW, hL]; exact h.fits
  supported := by rw [hst, hF]; exact h.supported
  overlap_eq := by rw [hst, hF, hO]; exact h.overlap_eq
  window := by rw [hst, hF, hW]; exact h.window
  latency := by rw [hst, hL]; exact h.latency
  fin_length := by rw [hst, hF, hfin]; exact h.fin_length
  fin_tail := by rw [hst, hF, hO, hfin]; exact h.fin_tail
  carry_length := by rw [hst, hO, hcarry]; exact h.carry_length

/-- Where no stage exists, only the FIFOs and the sizes of the numbers matter. -/
theorem State.Inv.of_unconf (hst : s.st = .unconf) (hin : s.inq = []) (hout : s.outq.length ≤ P.capOut)
    (hfits : s.F < 2 ^ 32 ∧ s.O < 2 ^ 32 ∧ s.W < 2 ^ 32 ∧ s.L < 2 ^ 32) : s.Inv P :=
  have hidle : s.st ≠ .idle := by simp [hst]
  { in_level := by simp [hin]
    out_level := hout
    unconf_empty := fun _ => hin
    fits := hfits
    supported := fun h => absurd h hidle
    overlap_eq := fun h => absurd h hidle
    window := fun h => absurd h hidle
    latency := fun h => absurd h hidle
    fin_length := fun h => absurd h hidle
    fin_tail := fun h => absurd h hidle
    carry_length := fun h => absurd h hidle }

theorem State.cleared_inv (P : Params S) : (State.cleared P.num.zero).Inv P :=
  .of_unconf rfl rfl (Nat.zero_le _) ⟨Nat.two_pow_pos 32, Nat.two_pow_pos 32, Nat.two_pow_pos 32, Nat.two_pow_pos 32⟩

/-- Settles O13. -/
theorem invariantHoldsAtReset : Obligations.InvariantHoldsAtReset :=
  ⟨State.cleared_inv thePart, fun _ P => State.cleared_inv P⟩

theorem State.resetBlock_inv (P : Params S) (s : State S) : (s.resetBlock P).Inv P :=
  (State.cleared_inv P).congr rfl rfl rfl rfl rfl rfl rfl rfl rfl

theorem State.Inv.grant (h : s.Inv P) (rest : List Request) : (s.grant P rest).Inv P :=
  h.congr rfl rfl rfl rfl rfl rfl rfl rfl rfl

theorem State.Inv.answer (h : s.Inv P) (r : Reply) : (s.answer r).Inv P :=
  h.congr rfl rfl rfl rfl rfl rfl rfl rfl rfl

theorem State.Inv.raise (h : s.Inv P) (e : Event) : (s.raise e).Inv P := by
  apply h.congr <;> simp

theorem State.Inv.stopStage (h : s.Inv P) : s.stopStage.Inv P := .of_unconf rfl rfl h.out_level h.fits

/-- A fresh stage: `inq` was empty, the parameters are the derived ones, the vectors are zero (R121, R124). -/
theorem State.Inv.startStage (h : s.Inv P) (hst : s.st = .unconf) (hF : P.supported (deriveF s.cfgF) = true) (r : S) :
    (s.startStage P r).Inv P where
  in_level := h.in_level
  out_level := h.out_level
  unconf_empty _ := h.unconf_empty hst
  fits := by
    have hFlt := deriveF_lt s.cfgF
    have hO := three_mul_overlap_le (le_deriveF s.cfgF)
    obtain ⟨_, hW, _⟩ := deriveW_bounds s.cfgF s.cfgWnd
    refine ⟨hFlt, lt_of_le_of_lt (?_ : overlap _ ≤ _) hFlt, lt_of_le_of_lt hW (by decide), deriveL_lt _⟩
    omega
  supported _ := hF
  overlap_eq _ := rfl
  window _ := deriveW_bounds _ _
  latency _ := one_le_deriveL _
  fin_length _ := List.length_replicate
  fin_tail _ i _ hi := List.getElem?_replicate_of_lt hi
  carry_length _ := List.length_replicate

/-- A block step writes `fin` below the block only, keeps all lengths, and the room it needs was checked (R151, R152). -/
theorem State.Inv.runBlock (h : s.Inv P) (hst : s.st = .idle) {n : Nat} (hn : n ≤ s.block)
    (hout : n ≤ P.capOut - s.outq.length) : (s.runBlock P n).Inv P where
  in_level := by
    rw [State.runBlock_inq_length]
    exact (Nat.sub_le _ _).trans h.in_level
  out_level := by
    have := h.out_level
    rw [State.runBlock_outq_length]
    omega
  unconf_empty hu := by simp [hst] at hu
  fits := h.fits
  supported := h.supported
  overlap_eq := h.overlap_eq
  window := h.window
  latency := h.latency
  fin_length _ := by
    have hlen := h.fin_length hst
    have hle : n ≤ s.fin.length := by rw [hlen]; exact hn.trans (Nat.sub_le _ _)
    exact (State.loaded_length hle).trans hlen
  fin_tail _ i hi hiF := by
    have hpast : (inputValues P.num (P.nonFinite s.tick) s.mode (s.inq.take n)).length ≤ i := by
      rw [inputValues_length, List.length_take]
      exact (Nat.min_le_left _ _).trans (hn.trans hi)
    exact (loadInput_getElem?_ge hpast).trans (h.fin_tail hst i hi hiF)
  carry_length _ := State.runBlock_carry_length s n

theorem State.Inv.pushIn (h : s.Inv P) (hst : s.st = .idle) (hlen : s.inq.length < P.capIn) (x : Sample) :
    (s.pushIn x).Inv P :=
  { h with
    in_level := by simpa using hlen
    unconf_empty := fun hu => by simp [hst] at hu }

theorem State.Inv.popOut (h : s.Inv P) : s.popOut.Inv P := by
  cases hq : s.outq with
  | nil => rwa [State.popOut_nil hq]
  | cons x rest =>
    rw [State.popOut_cons hq]
    refine { h with out_level := ?_ }
    have := h.out_level
    rw [hq, List.length_cons] at this
    exact Nat.le_of_succ_le this

/-- Every effect of an operation keeps the invariant. -/
theorem Effect.keeps_inv (h : s.Inv P) (he : Effect P s t) : t.Inv P := by
  cases he with
  | same => exact h
  | raised e => exact h.raise e
  | readRefused => exact (h.raise .bus).answer _
  | read r => exact h.answer _
  | acknowledged v | ctrl v | cfgF v | cfgWnd v | cfgLat v | cfgThr v =>
    exact h.congr rfl rfl rfl rfl rfl rfl rfl rfl rfl
  | ratio r _ _ => exact h.congr rfl rfl rfl rfl rfl rfl rfl rfl rfl
  | started r hst hF _ => exact h.startStage hst hF r
  | stopped _ => exact h.stopStage
  | block n hst hn _ hout => exact h.runBlock hst hn hout
  | pushed x hst hlen => exact h.pushIn hst hlen x
  | popped => exact h.popOut
  | reset => exact State.resetBlock_inv P s

theorem stepOf_keeps_inv (h : s.Inv P) (hs : stepOf P s = .next t) : t.Inv P :=
  have ⟨rest, he⟩ := stepOf_effect hs
  he.keeps_inv (h.grant rest)

/-- Settles O14, by cases on what a step can do. -/
theorem everyStepKeepsTheInvariant : Obligations.EveryStepKeepsTheInvariant :=
  ⟨fun s _ h hs => stepOf_keeps_inv h (step_eq s ▸ hs), fun _ _ _ _ h hs => stepOf_keeps_inv h hs⟩

end Sys2Proof.Machine

/-! ### The operations by what they do

The 81 rows of the table have nineteen meanings: every refused command or write raises one event, every legal read answers
one register. `execOf_eq_run` ties this to the model, and claims about all operations are proved by cases on `Action`. -/

namespace Sys2Proof.Machine

/-- The meanings of the operations. -/
inductive Action where
  | nop
  | init
  | proc
  | flush
  | setthr
  | stop
  /-- a reserved command or a write to no writable register -/
  | raised (e : Event)
  | acknowledge (v : Word)
  | setCtrl (v : Word)
  | setCfgF (v : Word)
  | setCfgWnd (v : Word)
  | setCfgLat (v : Word)
  | setCfgThr (v : Word)
  | read (r : Reg)
  /-- a read of no register -/
  | readRefused
  | push (x : Sample)
  | pop
  | autostep
  | reset

/-- What an action does to a state. -/
def Action.run {S : Type} (P : Params S) (s : State S) : Action → State S
  | nop => s
  | init => s.initCommand P
  | proc => s.procCommand P
  | flush => s.flushCommand P
  | setthr => s.setthrCommand P
  | stop => if s.conf then s.stopStage else s.refuseCommand
  | raised e => s.raise e
  | acknowledge v => s.acknowledge v
  | setCtrl v => s.setCtrl v
  | setCfgF v => s.setCfgF v
  | setCfgWnd v => s.setCfgWnd v
  | setCfgLat v => s.setCfgLat v
  | setCfgThr v => s.setCfgThr v
  | read r => s.readReg P r
  | readRefused => s.refuseRead
  | push x => s.push P x
  | pop => s.popOut
  | autostep => s.autostep P
  | reset => s.resetBlock P

/-- The action of an operation; those not named are the reserved command words (R100). -/
def actionOf : Instr → Action
  | .nop => .nop
  | .init => .init
  | .proc => .proc
  | .flush => .flush
  | .setthr => .setthr
  | .stop => .stop
  | .wrStatus v => .acknowledge v
  | .wrCtrl v => .setCtrl v
  | .wrCfgF v => .setCfgF v
  | .wrCfgWnd v => .setCfgWnd v
  | .wrCfgLat v => .setCfgLat v
  | .wrCfgThr v => .setCfgThr v
  | .wrEffFIllegal _ | .wrEffOIllegal _ | .wrEffWIllegal _ | .wrEffLIllegal _ | .wrRatioIllegal _ | .wrAvgIllegal _
  | .wrInLevelIllegal _ | .wrOutLevelIllegal _ | .wrReserved3C _ | .wrUnmapped40To7F _ _ | .wrUnmapped80ToFF _ _
  | .wrMisaligned1 _ _ | .wrMisaligned2 _ _ | .wrMisaligned3 _ _ => .raised .bus
  | .rdCmd => .read .cmd
  | .rdStatus => .read .status
  | .rdCtrl => .read .ctrl
  | .rdCfgF => .read .cfgF
  | .rdCfgWnd => .read .cfgWnd
  | .rdCfgLat => .read .cfgLat
  | .rdCfgThr => .read .cfgThr
  | .rdEffF => .read .effF
  | .rdEffO => .read .effO
  | .rdEffW => .read .effW
  | .rdEffL => .read .effL
  | .rdRatio => .read .ratio
  | .rdAvg => .read .avg
  | .rdInLevel => .read .inLevel
  | .rdOutLevel => .read .outLevel
  | .rdReserved3C | .rdUnmapped40To7F _ | .rdUnmapped80ToFF _ | .rdMisaligned1 _ | .rdMisaligned2 _
  | .rdMisaligned3 _ => .readRefused
  | .push re im => .push ⟨re, im⟩
  | .pop => .pop
  | .autostep => .autostep
  | .reset => .reset
  | _ => .raised .seq

/-- The one operation of an action that is no refusal. -/
def Action.operation : Action → Option Instr
  | nop => some .nop
  | init => some .init
  | proc => some .proc
  | flush => some .flush
  | setthr => some .setthr
  | stop => some .stop
  | acknowledge v => some (.wrStatus v)
  | setCtrl v => some (.wrCtrl v)
  | setCfgF v => some (.wrCfgF v)
  | setCfgWnd v => some (.wrCfgWnd v)
  | setCfgLat v => some (.wrCfgLat v)
  | setCfgThr v => some (.wrCfgThr v)
  | read .cmd => some .rdCmd
  | read .status => some .rdStatus
  | read .ctrl => some .rdCtrl
  | read .cfgF => some .rdCfgF
  | read .cfgWnd => some .rdCfgWnd
  | read .cfgLat => some .rdCfgLat
  | read .cfgThr => some .rdCfgThr
  | read .effF => some .rdEffF
  | read .effO => some .rdEffO
  | read .effW => some .rdEffW
  | read .effL => some .rdEffL
  | read .ratio => some .rdRatio
  | read .avg => some .rdAvg
  | read .inLevel => some .rdInLevel
  | read .outLevel => some .rdOutLevel
  | push x => some (.push x.re x.im)
  | pop => some .pop
  | autostep => some .autostep
  | reset => some .reset
  | raised _ | readRefused => none

/-- An action that is no refusal is of its own operation only. -/
theorem eq_of_actionOf_eq {i j : Instr} {a : Action} (hi : actionOf i = a) (ha : a.operation = some j) : i = j := by
  subst hi
  cases i <;> cases ha <;> rfl

variable {S : Type} {P : Params S} {s t : State S}

/-- Every operation of the machine of a part does what its action does. -/
theorem execOf_eq_run (P : Params S) (i : Instr) (s : State S) : execOf P i s = .next ((actionOf i).run P s) := by
  cases i <;> rfl

theorem exec_eq_run (i : Instr) (s : State) : exec i s = .next ((actionOf i).run thePart s) :=
  (exec_eq i s).trans (execOf_eq_run thePart i s)

/-- The next state of an operation is the one its action makes. -/
theorem eq_run_of_exec {i : Instr} {s t : State} (h : exec i s = .next t) : t = (actionOf i).run thePart s := by
  rw [exec_eq_run] at h
  injection h with h
  exact h.symm

/-- Every next state of an action, with the conditions under which the action has it: `Effect` again, and here with the
action, so that a claim may except some operations. -/
inductive Action.Does (P : Params S) (s : State S) : Action → State S → Prop where
  | same (a : Action) : Does P s a s
  | raised (a : Action) (e : Event) : Does P s a (s.raise e)
  | readRefused : Does P s readRefused s.refuseRead
  | read (r : Reg) : Does P s (read r) (s.readReg P r)
  | acknowledged (v : Word) : Does P s (acknowledge v) (s.acknowledge v)
  | ctrl (v : Word) : Does P s (setCtrl v) (s.setCtrl v)
  | cfgF (v : Word) : Does P s (setCfgF v) (s.setCfgF v)
  | cfgWnd (v : Word) : Does P s (setCfgWnd v) (s.setCfgWnd v)
  | cfgLat (v : Word) : Does P s (setCfgLat v) (s.setCfgLat v)
  | cfgThr (v : Word) : Does P s (setCfgThr v) (s.setCfgThr v)
  | ratio (r : S) (hst : s.st = .idle) : Does P s setthr (s.setRatio r)
  | started (r : S) (hst : s.st = .unconf) (hF : P.supported (deriveF s.cfgF) = true) : Does P s init (s.startStage P r)
  | stopped (hst : s.st = .idle) : Does P s stop s.stopStage
  | block {a : Action} (ha : a ∈ [proc, flush, autostep]) (n : Nat) (hst : s.st = .idle) (hn : n ≤ s.block)
      (hin : n ≤ s.inq.length) (hout : n ≤ P.capOut - s.outq.length) : Does P s a (s.runBlock P n)
  | pushed (x : Sample) (hst : s.st = .idle) (hlen : s.inq.length < P.capIn) : Does P s (push x) (s.pushIn x)
  | popped : Does P s pop s.popOut
  | reset : Does P s reset (s.resetBlock P)

theorem Action.Does.fullBlock {a : Action} (ha : a ∈ [proc, flush, autostep]) (h : s.canProcess P = true) :
    a.Does P s (s.runBlock P s.block) :=
  have ⟨hst, hin, hout⟩ := (State.canProcess_iff P s).1 h
  .block ha _ hst le_rfl hin hout

theorem State.initCommand_does (P : Params S) (s : State S) : Action.init.Does P s (s.initCommand P) := by
  unfold State.initCommand
  split_ifs with hc hF
  · exact .raised _ .seq
  · cases thresholdRatio P s.cfgThr with
    | none => exact .raised _ .cfg
    | some r => exact .started r ((State.conf_eq_false_iff s).1 (Bool.eq_false_iff.2 hc)) hF
  · exact .raised _ .cfg

theorem State.procCommand_does (P : Params S) (s : State S) : Action.proc.Does P s (s.procCommand P) := by
  unfold State.procCommand
  split_ifs with h
  · exact .fullBlock (by simp) h
  · exact .raised _ .seq

theorem State.flushCommand_does (P : Params S) (s : State S) : Action.flush.Does P s (s.flushCommand P) := by
  unfold State.flushCommand
  split_ifs with hc h0 hn
  · exact .same _
  · exact .block (by simp) _ ((State.conf_iff s).1 hc) (Nat.min_le_right _ _) (Nat.min_le_left _ _) hn
  · exact .raised _ .seq
  · exact .raised _ .seq

theorem State.setthrCommand_does (P : Params S) (s : State S) : Action.setthr.Does P s (s.setthrCommand P) := by
  unfold State.setthrCommand
  split_ifs with hc
  · cases thresholdRatio P s.cfgThr with
    | none => exact .same _
    | some r => exact .ratio r ((State.conf_iff s).1 hc)
  · exact .raised _ .seq

theorem Action.run_stop_does (P : Params S) (s : State S) : stop.Does P s (stop.run P s) := by
  simp only [run]
  split_ifs with h
  · exact .stopped ((State.conf_iff s).1 h)
  · exact .raised _ .seq

theorem State.push_does (P : Params S) (s : State S) (x : Sample) : (Action.push x).Does P s (s.push P x) := by
  unfold State.push
  split_ifs with h
  · obtain ⟨hst, hlen⟩ := (State.inReady_iff P s).1 h
    exact .pushed x hst hlen
  · exact .same _

theorem State.autostep_does (P : Params S) (s : State S) : Action.autostep.Does P s (s.autostep P) := by
  unfold State.autostep
  split_ifs with h
  · exact .fullBlock (by simp) ((State.autoEnabled_iff P s).1 h).2
  · exact .same _

/-- Every action does one of these. -/
theorem Action.run_does (P : Params S) (s : State S) (a : Action) : a.Does P s (a.run P s) := by
  cases a with
  | nop => exact .same _
  | init => exact s.initCommand_does P
  | proc => exact s.procCommand_does P
  | flush => exact s.flushCommand_does P
  | setthr => exact s.setthrCommand_does P
  | stop => exact run_stop_does P s
  | raised e => exact .raised _ e
  | acknowledge v => exact .acknowledged v
  | setCtrl v => exact .ctrl v
  | setCfgF v => exact .cfgF v
  | setCfgWnd v => exact .cfgWnd v
  | setCfgLat v => exact .cfgLat v
  | setCfgThr v => exact .cfgThr v
  | read r => exact .read r
  | readRefused => exact .readRefused
  | push x => exact s.push_does P x
  | pop => exact .popped
  | autostep => exact s.autostep_does P
  | reset => exact .reset

/-- Every next state of an operation is one its action can make. -/
theorem does_of_exec {i : Instr} {s t : State} (h : exec i s = .next t) : (actionOf i).Does thePart s t :=
  eq_run_of_exec h ▸ Action.run_does thePart s (actionOf i)

/-! ### What changes the parameters (R22, R23, R33, R72) -/

theorem Action.Does.parameters_eq {a : Action} (h : a.Does P s t) (hinit : a ≠ init) (hreset : a ≠ .reset) :
    t.F = s.F ∧ t.O = s.O ∧ t.W = s.W ∧ t.L = s.L ∧ t.mode = s.mode ∧ t.auto = s.auto := by
  cases h with
  | started => exact absurd rfl hinit
  | reset => exact absurd rfl hreset
  | raised | popped => simp
  | _ => exact ⟨rfl, rfl, rfl, rfl, rfl, rfl⟩

theorem Action.Does.ratio_eq {a : Action} (h : a.Does P s t) (hinit : a ≠ init) (hreset : a ≠ .reset)
    (hsetthr : a ≠ setthr) : t.ratio = s.ratio := by
  cases h with
  | started => exact absurd rfl hinit
  | reset => exact absurd rfl hreset
  | ratio => exact absurd rfl hsetthr
  | raised | popped => simp
  | _ => rfl

theorem Action.Does.blockState_eq {a : Action} (h : a.Does P s t) (hinit : a ≠ init) (hreset : a ≠ .reset)
    (hblock : a ∉ [proc, flush, autostep]) : t.avg = s.avg ∧ t.fin = s.fin ∧ t.carry = s.carry := by
  cases h with
  | started => exact absurd rfl hinit
  | reset => exact absurd rfl hreset
  | block ha => exact absurd ha hblock
  | raised | popped => simp
  | _ => exact ⟨rfl, rfl, rfl⟩

/-- Settles O37, by what each action can do. -/
theorem parametersChangeOnlyAtInit : Obligations.ParametersChangeOnlyAtInit := by
  intro i s t h hinit hreset
  have hdoes := does_of_exec h
  have hinit : actionOf i ≠ .init := fun ha => hinit (eq_of_actionOf_eq ha rfl)
  have hreset : actionOf i ≠ .reset := fun ha => hreset (eq_of_actionOf_eq ha rfl)
  refine ⟨hdoes.parameters_eq hinit hreset, fun hsetthr => ?_, fun hproc hflush hauto => ?_⟩
  · exact hdoes.ratio_eq hinit hreset fun ha => hsetthr (eq_of_actionOf_eq ha rfl)
  · refine hdoes.blockState_eq hinit hreset ?_
    simp only [List.mem_cons, List.not_mem_nil, or_false, not_or]
    exact ⟨fun ha => hproc (eq_of_actionOf_eq ha rfl), fun ha => hflush (eq_of_actionOf_eq ha rfl),
      fun ha => hauto (eq_of_actionOf_eq ha rfl)⟩

/-! ### The error flags (R26, R247, R248, R249) -/

@[simp] theorem State.popOut_flag (s : State S) (e : Event) : s.popOut.flag e = s.flag e := by
  cases e <;> simp [State.flag]

@[simp] theorem State.resetBlock_flag (P : Params S) (s : State S) (e : Event) : (s.resetBlock P).flag e = false := by
  cases e <;> rfl

/-- A set flag outlives every action but an acknowledgement and reset. -/
theorem Action.Does.flag_stays {a : Action} (h : a.Does P s t) (hack : ∀ v, a ≠ acknowledge v) (hreset : a ≠ .reset)
    {e : Event} (he : s.flag e = true) : t.flag e = true := by
  cases h with
  | acknowledged v => exact absurd rfl (hack v)
  | reset => exact absurd rfl hreset
  | raised | readRefused => simp [State.refuseRead_eq, he]
  | popped => rwa [State.popOut_flag]
  | _ => cases e <;> exact he

/-- An effect sets the flag of one event at most: the event it raises, if it raises one. -/
theorem Effect.sets_one_flag (h : Effect P s t) : ∃ raised, ∀ e, s.flag e = false → t.flag e = true → e = raised := by
  cases h with
  | raised r => exact ⟨r, fun e hs ht => by simpa [hs, eq_comm] using ht⟩
  | readRefused => exact ⟨.bus, fun e hs ht => by simpa [State.refuseRead_eq, hs, eq_comm] using ht⟩
  | acknowledged | popped | reset => exact ⟨.bus, fun e hs ht => by simp [hs] at ht⟩
  | _ => exact ⟨.bus, fun e hs ht => absurd (hs.symm.trans (by cases e <;> exact ht)) Bool.false_ne_true⟩

/-- Settles O40. -/
theorem flagsAreStickyAndRaisedOneAtATime : Obligations.FlagsAreStickyAndRaisedOneAtATime := by
  intro i s t h
  refine ⟨fun hack hreset e he => ?_, fun e e' hs ht hs' ht' => ?_⟩
  · exact (does_of_exec h).flag_stays (fun v ha => hack v (eq_of_actionOf_eq ha rfl))
      (fun ha => hreset (eq_of_actionOf_eq ha rfl)) he
  · obtain ⟨raised, hone⟩ := (exec_effect h).sets_one_flag
    exact (hone e hs ht).trans (hone e' hs' ht').symm

/-! ### Two runs: what no operation looks at -/

/-- The state with its error flags forgotten. -/
def State.noFlags (s : State S) : State S := { s with errCfg := false, errSeq := false, errBus := false }

/-- The state with its staging registers forgotten. -/
def State.noStaging (s : State S) : State S := { s with ctrl := 0, cfgF := 0, cfgWnd := 0, cfgLat := 0, cfgThr := 0 }

theorem State.sameButFlags_iff (s t : State S) : s.sameButFlags t ↔ s.noFlags = t.noFlags where
  mp h := (congrArg State.noFlags h).symm
  mpr h := calc
    t = { t.noFlags with errCfg := t.errCfg, errSeq := t.errSeq, errBus := t.errBus } := rfl
    _ = { s.noFlags with errCfg := t.errCfg, errSeq := t.errSeq, errBus := t.errBus } := by rw [h]

theorem State.sameButStaging_iff (s t : State S) : s.sameButStaging t ↔ s.noStaging = t.noStaging where
  mp h := (congrArg State.noStaging h).symm
  mpr h := calc
    t = { t.noStaging with
      ctrl := t.ctrl, cfgF := t.cfgF, cfgWnd := t.cfgWnd, cfgLat := t.cfgLat, cfgThr := t.cfgThr } := rfl
    _ = { s.noStaging with
      ctrl := t.ctrl, cfgF := t.cfgF, cfgWnd := t.cfgWnd, cfgLat := t.cfgLat, cfgThr := t.cfgThr } := by rw [h]

/-- Two choices on one condition agree under `f` where both their branches do. The two conditions may be written over two
states, as long as neither looks at what the states differ in. -/
theorem map_ite_congr {α β : Type} (f : α → β) {c c' : Prop} [Decidable c] [Decidable c'] (hc : c ↔ c') {a a' b b' : α}
    (ha : f a = f a') (hb : f b = f b') : f (if c then a else b) = f (if c' then a' else b') := by
  rw [apply_ite f, apply_ite f]
  exact if_congr hc ha hb

theorem State.noFlags_initCommand (P : Params S) (s : State S) :
    (s.noFlags.initCommand P).noFlags = (s.initCommand P).noFlags := by
  refine map_ite_congr State.noFlags Iff.rfl rfl (map_ite_congr State.noFlags Iff.rfl ?_ rfl)
  rw [show s.noFlags.cfgThr = s.cfgThr from rfl]
  cases thresholdRatio P s.cfgThr <;> rfl

theorem State.noFlags_setthrCommand (P : Params S) (s : State S) :
    (s.noFlags.setthrCommand P).noFlags = (s.setthrCommand P).noFlags := by
  refine map_ite_congr State.noFlags Iff.rfl ?_ rfl
  rw [show s.noFlags.cfgThr = s.cfgThr from rfl]
  cases thresholdRatio P s.cfgThr <;> rfl

theorem State.noFlags_popOut (s : State S) : s.noFlags.popOut.noFlags = s.popOut.noFlags := by
  unfold State.popOut
  rw [show s.noFlags.outq = s.outq from rfl]
  cases s.outq <;> rfl

theorem State.noStaging_popOut (s : State S) : s.noStaging.popOut.noStaging = s.popOut.noStaging := by
  unfold State.popOut
  rw [show s.noStaging.outq = s.outq from rfl]
  cases s.outq <;> rfl

/-- No action but a read of STATUS looks at the error flags. -/
theorem Action.run_noFlags (P : Params S) (s : State S) {a : Action} (ha : a ≠ read .status) :
    (a.run P s.noFlags).noFlags = (a.run P s).noFlags := by
  cases a with
  | init => exact s.noFlags_initCommand P
  | setthr => exact s.noFlags_setthrCommand P
  | pop => exact s.noFlags_popOut
  | proc | stop | push | autostep => exact map_ite_congr State.noFlags Iff.rfl rfl rfl
  | flush =>
    exact map_ite_congr State.noFlags Iff.rfl
      (map_ite_congr State.noFlags Iff.rfl rfl (map_ite_congr State.noFlags Iff.rfl rfl rfl)) rfl
  | raised e => cases e <;> rfl
  | read r => cases r with
    | status => exact absurd rfl ha
    | _ => rfl
  | _ => rfl

/-- The actions that look at the staging registers: the two commands that latch them, and their own reads. -/
def Action.looksAtStaging : List Action :=
  [init, setthr, read .ctrl, read .cfgF, read .cfgWnd, read .cfgLat, read .cfgThr]

/-- No other action looks at the staging registers. -/
theorem Action.run_noStaging (P : Params S) (s : State S) {a : Action} (ha : a ∉ looksAtStaging) :
    (a.run P s.noStaging).noStaging = (a.run P s).noStaging := by
  cases a with
  | init | setthr => exact absurd (by simp [looksAtStaging]) ha
  | pop => exact s.noStaging_popOut
  | proc | stop | push | autostep => exact map_ite_congr State.noStaging Iff.rfl rfl rfl
  | flush =>
    exact map_ite_congr State.noStaging Iff.rfl
      (map_ite_congr State.noStaging Iff.rfl rfl (map_ite_congr State.noStaging Iff.rfl rfl rfl)) rfl
  | raised e => cases e <;> rfl
  | read r => cases r with
    | ctrl | cfgF | cfgWnd | cfgLat | cfgThr => exact absurd (by simp [looksAtStaging]) ha
    | _ => rfl
  | _ => rfl

/-- Settles O41: both runs agree with the run from the state without flags. -/
theorem flagsAreReadByNothing : Obligations.FlagsAreReadByNothing := by
  intro i s s' t t' hi hs ht ht'
  have ha : actionOf i ≠ .read .status := fun ha => hi (eq_of_actionOf_eq ha rfl)
  rw [State.sameButFlags_iff] at hs ⊢
  rw [eq_run_of_exec ht, eq_run_of_exec ht', ← Action.run_noFlags _ s ha, ← Action.run_noFlags _ s' ha, hs]

theorem actionOf_not_looksAtStaging {i : Instr}
    (hi : i ∉ [Instr.init, .setthr, .rdCtrl, .rdCfgF, .rdCfgWnd, .rdCfgLat, .rdCfgThr]) :
    actionOf i ∉ Action.looksAtStaging := by
  intro ha
  simp only [Action.looksAtStaging, List.mem_cons, List.not_mem_nil, or_false] at ha
  rcases ha with ha | ha | ha | ha | ha | ha | ha <;> exact hi (by simp [eq_of_actionOf_eq ha rfl])

/-- Settles O42: both runs agree with the run from the state without staging registers. -/
theorem stagingIsNotLive : Obligations.StagingIsNotLive := by
  intro i s s' t t' hi hs ht ht'
  have ha := actionOf_not_looksAtStaging hi
  rw [State.sameButStaging_iff] at hs ⊢
  rw [eq_run_of_exec ht, eq_run_of_exec ht', ← Action.run_noStaging _ s ha, ← Action.run_noStaging _ s' ha, hs]

end Sys2Proof.Machine

/-! ### STATUS and the refused accesses (R21, R30, R31, R61, R243) -/

namespace Sys2Proof.Machine

theorem bitAt_getLsbD (n k : Nat) (b : Bool) : (bitAt n b).getLsbD k = (b && decide (n < 32 ∧ n = k)) := by
  cases b with
  | true => simp [bitAt, BitVec.getLsbD_twoPow]
  | false => simp [bitAt]

variable {S : Type} (P : Params S) (s : State S)

theorem State.conf_eq_decide : s.conf = decide (s.st = .idle) := by
  rw [Bool.eq_iff_iff, State.conf_iff, decide_eq_true_iff]

theorem State.canProcess_eq_decide : s.canProcess P =
    decide (s.st = .idle ∧ s.F - s.O ≤ s.inq.length ∧ s.F - s.O ≤ P.capOut - s.outq.length) := by
  rw [Bool.eq_iff_iff, State.canProcess_iff, decide_eq_true_iff]
  rfl

theorem State.inReady_eq_decide : s.inReady P = decide (s.st = .idle ∧ s.inq.length < P.capIn) := by
  rw [Bool.eq_iff_iff, State.inReady_iff, decide_eq_true_iff]

/-- The bits of STATUS from 0 to 5 and from 8 to 10 are the level outputs, in order (R31, R250). -/
theorem State.statusWord_levelOutputs :
    s.levelOutputs P = [0, 1, 2, 3, 4, 5, 8, 9, 10].map (s.statusWord P).getLsbD := by
  simp only [State.levelOutputs, State.statusWord, List.map_cons, List.map_nil, BitVec.getLsbD_or, bitAt_getLsbD]
  simp

/-- Every other bit of STATUS reads 0 (R31). -/
theorem State.statusWord_reserved {n : Nat} (hn : n = 6 ∨ n = 7 ∨ 11 ≤ n) : (s.statusWord P).getLsbD n = false := by
  have hne : 0 ≠ n ∧ 1 ≠ n ∧ 2 ≠ n ∧ 3 ≠ n ∧ 4 ≠ n ∧ 5 ≠ n ∧ 8 ≠ n ∧ 9 ≠ n ∧ 10 ≠ n := by omega
  simp [State.statusWord, bitAt_getLsbD, hne]

/-- Acknowledging, bit by bit (R31). -/
theorem State.acknowledge_eq (v : Word) : s.acknowledge v = { s with
    errCfg := if v.getLsbD 8 then false else s.errCfg
    errSeq := if v.getLsbD 9 then false else s.errSeq
    errBus := if v.getLsbD 10 then false else s.errBus } := by
  have hclear : ∀ flag bit : Bool, (flag && !bit) = if bit then false else flag := by decide
  rw [← hclear, ← hclear, ← hclear]
  rfl

/-- Settles O29. -/
theorem statusReadsAndClears : Obligations.StatusReadsAndClears := by
  refine ⟨fun s => ⟨s.statusWord thePart, rfl, ?_⟩, fun v s => congrArg Host.Outcome.next (s.acknowledge_eq v)⟩
  have hlevels := s.statusWord_levelOutputs thePart
  have hbits := hlevels
  simp only [State.levelOutputs, List.map_cons, List.map_nil, List.cons.injEq, and_true] at hbits
  obtain ⟨h0, h1, h2, h3, h4, h5, h8, h9, h10⟩ := hbits
  exact ⟨h0.symm.trans s.conf_eq_decide, h1.symm, h2.symm.trans (beq_eq_decide _ _),
    h3.symm.trans (s.canProcess_eq_decide thePart), h4.symm.trans (s.inReady_eq_decide thePart), h5.symm, h8.symm, h9.symm,
    h10.symm, fun n hn => s.statusWord_reserved thePart hn, hlevels⟩

/-- Settles O26: truncation to two bits is the slice 1:0. -/
theorem stagingWritesReplaceOneRegister : Obligations.StagingWritesReplaceOneRegister := fun v s =>
  have hctrl : v.setWidth 2 = v.extractLsb' 0 2 := BitVec.setWidth_eq_extractLsb' (by decide)
  ⟨by rw [← hctrl]; rfl, rfl, rfl, rfl, rfl⟩

/-- Settles O30: all six rows are `State.refuseRead`. -/
theorem refusedReadsRaiseBusError : Obligations.RefusedReadsRaiseBusError := fun _ _ => ⟨rfl, rfl, rfl, rfl, rfl, rfl⟩

end Sys2Proof.Machine

/-! ### The average power in the reference instance (R181, R182, R184) -/

namespace Sys2Proof.Machine

/-- Of nonnegative numbers the running maximum from `a` is at most `a` or the sum. -/
theorem foldl_max_le_max_sum {l : List ℝ} (hl : ∀ x ∈ l, 0 ≤ x) (a : ℝ) : l.foldl max a ≤ max a l.sum := by
  induction l generalizing a with
  | nil => exact le_max_left _ _
  | cons x l ih =>
    obtain ⟨hx, hl⟩ := List.forall_mem_cons.1 hl
    have hsum : 0 ≤ l.sum := List.sum_nonneg hl
    rw [List.foldl_cons, List.sum_cons]
    calc l.foldl max (max a x) ≤ max (max a x) l.sum := ih hl _
      _ ≤ max a (x + l.sum) := by
        rw [max_assoc]
        exact max_le_max_left _ (max_le (by linarith) (by linarith))

/-- Of nonnegative numbers the largest is at most the sum. -/
theorem numR_maxF_le_sumF {l : List ℝ} (hl : ∀ x ∈ l, 0 ≤ x) : numR.maxF l ≤ numR.sumF l := by
  have hhead : l.headD 0 ≤ l.sum := by
    cases l with
    | nil => exact le_rfl
    | cons x l => exact List.single_le_sum hl x List.mem_cons_self
  exact (foldl_max_le_max_sum hl _).trans (max_le hhead le_rfl)

theorem level_numR_nonneg (z : Cplx ℝ) : 0 ≤ level numR z :=
  add_nonneg (mul_self_nonneg z.re) (mul_self_nonneg z.im)

theorem power_levels_numR_nonneg (bins : List (Cplx ℝ)) : 0 ≤ power numR (levels numR bins) := by
  refine sub_nonneg.2 (numR_maxF_le_sumF fun x hx => ?_)
  obtain ⟨z, _, rfl⟩ := List.mem_map.1 hx
  exact level_numR_nonneg z

/-- A part of the way from `a` to `p` lies between them. -/
theorem add_sub_div_between (a p : ℝ) {k : ℝ} (hk : 1 ≤ k) :
    min a p ≤ a + (p - a) / k ∧ a + (p - a) / k ≤ max a p := by
  rcases le_total a p with h | h
  · have h0 : 0 ≤ (p - a) / k := div_nonneg (by linarith) (by linarith)
    have h1 : (p - a) / k ≤ p - a := div_le_self (by linarith) hk
    rw [min_eq_left h, max_eq_right h]
    constructor <;> linarith
  · have h0 : 0 ≤ (a - p) / k := div_nonneg (by linarith) (by linarith)
    have h1 : (a - p) / k ≤ a - p := div_le_self (by linarith) hk
    rw [min_eq_right h, max_eq_left h, ← neg_sub a p, neg_div]
    constructor <;> linarith

/-- Attack and decay are one form, with time constant 2 or `L` (R184). -/
theorem smooth_numR_between {L : ℕ} (hL : 1 ≤ L) (avg pow : ℝ) :
    min avg pow ≤ smooth numR L avg pow ∧ smooth numR L avg pow ≤ max avg pow := by
  unfold smooth
  split_ifs
  · exact add_sub_div_between avg pow (Nat.one_le_cast.2 one_le_two)
  · exact add_sub_div_between avg pow (Nat.one_le_cast.2 hL)

theorem newAverage_numR_nonneg {L : ℕ} (hL : 1 ≤ L) {avg : ℝ} (h : 0 ≤ avg) (bins : List (Cplx ℝ)) :
    0 ≤ newAverage numR L avg bins :=
  (le_min h (power_levels_numR_nonneg bins)).trans (smooth_numR_between hL _ _).1

/-- In a machine over the reference instance every effect keeps the average nonnegative (R23). -/
theorem Effect.keeps_avg_nonneg {P : Params ℝ} (hP : P.num = numR) {s t : State ℝ} (hinv : s.Inv P) (h : 0 ≤ s.avg)
    (he : Effect P s t) : 0 ≤ t.avg := by
  have hzero : 0 ≤ P.num.zero := by rw [hP, numR_zero]
  cases he with
  | started | reset => exact hzero
  | block n hst =>
    rw [State.runBlock_avg, hP]
    exact newAverage_numR_nonneg (hinv.latency hst) h _
  | raised | popped => simpa using h
  | _ => exact h

/-- Settles O55. -/
theorem averageMovesTowardThePower : Obligations.AverageMovesTowardThePower := by
  refine ⟨fun L avg bins pow hL havg hpow => ?_, fun bad next s t hinv havg hs => ?_⟩
  · subst hpow
    exact ⟨power_levels_numR_nonneg bins, newAverage_numR_nonneg hL havg bins, smooth_numR_between hL _ _⟩
  · obtain ⟨rest, he⟩ := stepOf_effect hs
    exact he.keeps_avg_nonneg rfl (hinv.grant rest) havg

end Sys2Proof.Machine

/-! ### The ends of the FIFOs and the refused writes (R61, R68, R69, R151, R243) -/

namespace Sys2Proof.Machine

variable {S : Type} {P : Params S} {s t : State S}

/-- Only a PUSH appends to `inq`: whatever else happens leaves a tail of it. -/
theorem Action.Does.inq_suffix {a : Action} (h : a.Does P s t) (hpush : ∀ x, a ≠ push x) : t.inq <:+ s.inq := by
  cases h with
  | pushed x => exact absurd rfl (hpush x)
  | block _ n => exact List.drop_suffix n s.inq
  | stopped | reset => exact List.nil_suffix
  | raised | popped => simp
  | _ => exact List.suffix_rfl

/-- Only block steps, STOP and reset remove from `inq`. -/
theorem Action.Does.inq_prefix {a : Action} (h : a.Does P s t) (ha : a ∉ [proc, flush, autostep, stop, .reset]) :
    s.inq <+: t.inq := by
  cases h with
  | block hblock => exact absurd (List.mem_append_left [stop, .reset] hblock) ha
  | stopped | reset => exact absurd (by simp) ha
  | pushed x => exact List.prefix_append s.inq [x]
  | raised | popped => simp
  | _ => exact List.prefix_rfl

/-- Only block steps append to `outq`. -/
theorem Action.Does.outq_suffix {a : Action} (h : a.Does P s t) (ha : a ∉ [proc, flush, autostep]) :
    t.outq <:+ s.outq := by
  cases h with
  | block hblock => exact absurd hblock ha
  | popped =>
    rw [State.popOut_outq]
    exact List.tail_suffix s.outq
  | reset => exact List.nil_suffix
  | raised => simp
  | _ => exact List.suffix_rfl

/-- Only POP and reset remove from `outq`. -/
theorem Action.Does.outq_prefix {a : Action} (h : a.Does P s t) (ha : a ∉ [pop, .reset]) : s.outq <+: t.outq := by
  cases h with
  | popped | reset => exact absurd (by simp) ha
  | block => exact List.prefix_append s.outq _
  | raised => simp
  | _ => exact List.prefix_rfl

/-- A block step that is refused, or has nothing to do, takes and emits no sample. -/
theorem Action.Does.emits_as_many_as_it_takes {a : Action} (h : a.Does P s t) (ha : a ∈ [proc, flush, autostep]) :
    ∃ taken emitted, s.inq = taken ++ t.inq ∧ t.outq = s.outq ++ emitted ∧ emitted.length = taken.length := by
  cases h with
  | block _ n _ _ hin =>
    refine ⟨s.inq.take n, _, (List.take_append_drop n s.inq).symm, rfl, ?_⟩
    rw [blockOut_length, List.length_take_of_le hin]
  | same | raised => exact ⟨[], [], by simp⟩
  | _ => simp at ha

theorem State.push_of_full {s : State S} (h : s.inq.length = P.capIn) (x : Sample) : s.push P x = s :=
  if_neg fun hready => ((State.inReady_iff P s).1 hready).2.ne h

/-- An operation outside a list does none of the actions that are of the operations in it. -/
theorem actionOf_notMem {i : Instr} {is : List Instr} {as : List Action} (has : as.map Action.operation = is.map some)
    (hi : i ∉ is) : actionOf i ∉ as := by
  intro ha
  have hmem : (actionOf i).operation ∈ is.map some := has ▸ List.mem_map_of_mem ha
  obtain ⟨j, hj, hop⟩ := List.mem_map.1 hmem
  exact hi (eq_of_actionOf_eq rfl hop.symm ▸ hj)

/-- Settles O38, by what each action can do to the ends of the FIFOs. -/
theorem fifoEndsHaveOneOwner : Obligations.FifoEndsHaveOneOwner := by
  refine ⟨fun i s t h => ?_, fun re im s hfull => ?_⟩
  · have hdoes := does_of_exec h
    exact ⟨fun hpush => hdoes.inq_suffix fun x ha => hpush x.re x.im (eq_of_actionOf_eq ha rfl),
      fun hi => hdoes.inq_prefix (actionOf_notMem rfl hi), fun hi => hdoes.outq_suffix (actionOf_notMem rfl hi),
      fun hi => hdoes.outq_prefix (actionOf_notMem rfl hi)⟩
  · exact congrArg Host.Outcome.next (State.push_of_full hfull ⟨re, im⟩)

/-- Settles O39. -/
theorem blocksEmitAsManyAsTheyTake : Obligations.BlocksEmitAsManyAsTheyTake := fun _ _ _ hi h =>
  (does_of_exec h).emits_as_many_as_it_takes (List.mem_map_of_mem (f := actionOf) hi)

/-- Settles O27: all fourteen rows are `State.refuseWrite`. -/
theorem refusedWritesRaiseBusError : Obligations.RefusedWritesRaiseBusError := fun _ _ _ =>
  ⟨rfl, rfl, rfl, rfl, rfl, rfl, rfl, rfl, rfl, rfl, rfl, rfl, rfl, rfl⟩

end Sys2Proof.Machine

/-! ### Decoder and encoder (R30, R60, R61, R90, R92, R100) -/

namespace Sys2Proof

/-- Where an offset lies (R61): past the register space, or in it and misaligned, or one of the sixteen words. -/
theorem Offset.regions (o : Offset) : o.in80ToFF = true ∨ o.in40To7F = true ∨ o.misaligned 1 = true ∨
    o.misaligned 2 = true ∨ o.misaligned 3 = true ∨ ∃ k < 16, o = BitVec.ofNat 8 (4 * k) := by
  revert o; decide

theorem decodeWrite_of_in80ToFF {o : Offset} (h : o.in80ToFF = true) (v : Word) :
    decodeWrite o v = .wrUnmapped80ToFF o v :=
  if_pos (of_decide_eq_true h)

theorem decodeWrite_of_in40To7F {o : Offset} (h : o.in40To7F = true) (v : Word) :
    decodeWrite o v = .wrUnmapped40To7F o v := by
  have ⟨hlo, hhi⟩ := of_decide_eq_true h
  simp (disch := omega) only [decodeWrite, ↓if_neg, ↓if_pos]

theorem decodeWrite_of_misaligned1 {o : Offset} (h : o.misaligned 1 = true) (v : Word) :
    decodeWrite o v = .wrMisaligned1 o v := by
  have ⟨hlt, hmod⟩ := of_decide_eq_true h
  simp (disch := omega) only [decodeWrite, ↓if_neg, ↓if_pos]

theorem decodeWrite_of_misaligned2 {o : Offset} (h : o.misaligned 2 = true) (v : Word) :
    decodeWrite o v = .wrMisaligned2 o v := by
  have ⟨hlt, hmod⟩ := of_decide_eq_true h
  simp (disch := omega) only [decodeWrite, ↓if_neg, ↓if_pos]

theorem decodeWrite_of_misaligned3 {o : Offset} (h : o.misaligned 3 = true) (v : Word) :
    decodeWrite o v = .wrMisaligned3 o v := by
  have ⟨hlt, hmod⟩ := of_decide_eq_true h
  simp (disch := omega) only [decodeWrite, ↓if_neg, ↓if_pos]

theorem decodeRead_of_in80ToFF : ∀ o : Offset, o.in80ToFF = true → decodeRead o = .rdUnmapped80ToFF o := by decide

theorem decodeRead_of_in40To7F : ∀ o : Offset, o.in40To7F = true → decodeRead o = .rdUnmapped40To7F o := by decide

theorem decodeRead_of_misaligned1 : ∀ o : Offset, o.misaligned 1 = true → decodeRead o = .rdMisaligned1 o := by decide

theorem decodeRead_of_misaligned2 : ∀ o : Offset, o.misaligned 2 = true → decodeRead o = .rdMisaligned2 o := by decide

theorem decodeRead_of_misaligned3 : ∀ o : Offset, o.misaligned 3 = true → decodeRead o = .rdMisaligned3 o := by decide

theorem decodeTransfer_pushKey (re im : Word) : decodeTransfer (pushKey re im) = .push re im := by
  have hdir : (pushKey re im).getLsbD 64 = false := by
    rw [pushKey, BitVec.getLsbD_append, BitVec.getLsbD_append]
    simp
  have hre : (pushKey re im).extractLsb' 32 32 = re := by
    ext i hi
    rw [pushKey, BitVec.getElem_extractLsb', BitVec.getLsbD_append, BitVec.getLsbD_append]
    simp [hi]
  have him : (pushKey re im).extractLsb' 0 32 = im := by
    ext i hi
    rw [pushKey, BitVec.getElem_extractLsb', BitVec.getLsbD_append]
    simp [hi]
  rw [decodeTransfer, hdir, hre, him]
  rfl

/-- What is decoded from the request of a well-formed operation is that operation. -/
theorem decode_encode {i : Instr} (hi : i.wellFormed = true) {r : Request} (hr : encode i = some r) :
    decode r = .ok i := by
  cases i with
  | cmdReserved6To7 w | cmdReservedBit3 w | cmdReservedBit4 w | cmdReservedBit5 w | cmdReservedBit6 w
  | cmdReservedBit7 w | cmdReservedBit8 w | cmdReservedBit9 w | cmdReservedBit10 w | cmdReservedBit11 w
  | cmdReservedBit12 w | cmdReservedBit13 w | cmdReservedBit14 w | cmdReservedBit15 w | cmdReservedBit16 w
  | cmdReservedBit17 w | cmdReservedBit18 w | cmdReservedBit19 w | cmdReservedBit20 w | cmdReservedBit21 w
  | cmdReservedBit22 w | cmdReservedBit23 w | cmdReservedBit24 w | cmdReservedBit25 w | cmdReservedBit26 w
  | cmdReservedBit27 w | cmdReservedBit28 w | cmdReservedBit29 w | cmdReservedBit30 w | cmdReservedBit31 w =>
    cases hr
    have ⟨hlo, hhi⟩ := of_decide_eq_true hi
    refine congrArg Except.ok (?_ : decodeCommand w = _)
    simp (disch := omega) only [decodeCommand, ↓if_neg, ↓if_pos]
  | wrUnmapped40To7F o v => cases hr; exact congrArg Except.ok (decodeWrite_of_in40To7F hi v)
  | wrUnmapped80ToFF o v => cases hr; exact congrArg Except.ok (decodeWrite_of_in80ToFF hi v)
  | wrMisaligned1 o v => cases hr; exact congrArg Except.ok (decodeWrite_of_misaligned1 hi v)
  | wrMisaligned2 o v => cases hr; exact congrArg Except.ok (decodeWrite_of_misaligned2 hi v)
  | wrMisaligned3 o v => cases hr; exact congrArg Except.ok (decodeWrite_of_misaligned3 hi v)
  | rdUnmapped40To7F o => cases hr; exact congrArg Except.ok (decodeRead_of_in40To7F o hi)
  | rdUnmapped80ToFF o => cases hr; exact congrArg Except.ok (decodeRead_of_in80ToFF o hi)
  | rdMisaligned1 o => cases hr; exact congrArg Except.ok (decodeRead_of_misaligned1 o hi)
  | rdMisaligned2 o => cases hr; exact congrArg Except.ok (decodeRead_of_misaligned2 o hi)
  | rdMisaligned3 o => cases hr; exact congrArg Except.ok (decodeRead_of_misaligned3 o hi)
  | push re im => cases hr; exact congrArg Except.ok (decodeTransfer_pushKey re im)
  | autostep => cases hr
  | _ => cases hr; rfl

theorem encode_eq_none_iff (i : Instr) : encode i = none ↔ i = .autostep := by
  cases i <;> simp [encode]

/-- Settles O1, by cases on the operation. -/
theorem decodeOfEncodeIsTheOperation : Obligations.DecodeOfEncodeIsTheOperation :=
  ⟨fun _ _ hi hr => decode_encode hi hr, encode_eq_none_iff⟩

/-- `i` is well-formed and `r` is its request. -/
def Request.IsOf (r : Request) (i : Instr) : Prop := i.wellFormed = true ∧ encode i = some r

/-- A command word is the request of what it decodes to: the six codes, then the ranges of the reserved rows in turn. -/
theorem isOf_decodeCommand (w : Word) : (commandWrite w).IsOf (decodeCommand w) := by
  have hlt := w.isLt
  iterate 6
    refine iteInduction (motive := (commandWrite w).IsOf) (fun h => ⟨rfl, ?_⟩) fun _ => ?_
    · exact congrArg (some ∘ commandWrite) (BitVec.eq_of_toNat_eq h.symm)
  iterate 29
    refine iteInduction (motive := (commandWrite w).IsOf) (fun _ => ⟨decide_eq_true ?_, rfl⟩) fun _ => ?_
    · omega
  exact ⟨decide_eq_true (by omega), rfl⟩

theorem isOf_decodeWrite (o : Offset) (v : Word) : (Request.write o v 4).IsOf (decodeWrite o v) := by
  obtain h | h | h | h | h | ⟨k, hk, rfl⟩ := o.regions
  · rw [decodeWrite_of_in80ToFF h]; exact ⟨h, rfl⟩
  · rw [decodeWrite_of_in40To7F h]; exact ⟨h, rfl⟩
  · rw [decodeWrite_of_misaligned1 h]; exact ⟨h, rfl⟩
  · rw [decodeWrite_of_misaligned2 h]; exact ⟨h, rfl⟩
  · rw [decodeWrite_of_misaligned3 h]; exact ⟨h, rfl⟩
  · interval_cases k
    · exact isOf_decodeCommand v
    all_goals exact ⟨rfl, rfl⟩

theorem isOf_decodeRead (o : Offset) : (Request.read o 4).IsOf (decodeRead o) := by
  obtain h | h | h | h | h | ⟨k, hk, rfl⟩ := o.regions
  · rw [decodeRead_of_in80ToFF o h]; exact ⟨h, rfl⟩
  · rw [decodeRead_of_in40To7F o h]; exact ⟨h, rfl⟩
  · rw [decodeRead_of_misaligned1 o h]; exact ⟨h, rfl⟩
  · rw [decodeRead_of_misaligned2 o h]; exact ⟨h, rfl⟩
  · rw [decodeRead_of_misaligned3 o h]; exact ⟨h, rfl⟩
  · interval_cases k <;> exact ⟨rfl, rfl⟩

/-- A transfer key is taken apart into its three fields without loss. -/
theorem pushKey_extract {key : BitVec 65} (h : key.getLsbD 64 = false) :
    pushKey (key.extractLsb' 32 32) (key.extractLsb' 0 32) = key := by
  refine BitVec.eq_of_getLsbD_eq fun i hi => ?_
  rw [pushKey, BitVec.getLsbD_append, BitVec.getLsbD_append, BitVec.getLsbD_extractLsb', BitVec.getLsbD_extractLsb']
  by_cases h0 : i < 32
  · simp [h0]
  · by_cases h1 : i < 64
    · have h32 : i - 32 < 32 := by omega
      have hi : 32 + (i - 32) = i := by omega
      simp [h0, h32, hi]
    · obtain rfl : i = 64 := by omega
      simpa using h

theorem isOf_decodeTransfer {key : BitVec 65} (h : key.getLsbD 64 = false) :
    (Request.transfer key).IsOf (decodeTransfer key) := by
  have hpush : decodeTransfer key = .push (key.extractLsb' 32 32) (key.extractLsb' 0 32) := by
    rw [decodeTransfer, h]; rfl
  rw [hpush]
  exact ⟨rfl, congrArg (some ∘ Request.transfer) (pushKey_extract h)⟩

/-- A request that decodes is the request of its operation; a POP has as many as its ignored fields have values. -/
theorem isOf_of_decode {r : Request} {i : Instr} (h : decode r = .ok i) :
    r.IsOf i ∨ i = .pop ∧ ∃ key : BitVec 65, r = .transfer key ∧ key.getLsbD 64 = true := by
  cases r with
  | read o size =>
    by_cases hs : size = 4
    · subst hs; cases h; exact .inl (isOf_decodeRead o)
    · rw [decode, if_neg hs] at h; cases h
  | write o v size =>
    by_cases hs : size = 4
    · subst hs; cases h; exact .inl (isOf_decodeWrite o v)
    · rw [decode, if_neg hs] at h; cases h
  | transfer key =>
    cases h
    cases hdir : key.getLsbD 64 with
    | false => exact .inl (isOf_decodeTransfer hdir)
    | true => exact .inr ⟨if_pos hdir, key, rfl, hdir⟩
  | reset => cases h; exact .inl ⟨rfl, rfl⟩

section
open Laws.EncodesInRow

/-- The request of a well-formed operation selects its row: the family `EncodesInRow` as one lemma. -/
theorem selects_of_isOf {r : Request} {i : Instr} (h : r.IsOf i) : r.selects i.row = true := by
  obtain ⟨hi, hr⟩ := h
  refine (?_ : Statement i) hi r hr
  cases i
  exacts [nop, init, proc, flush, setthr, stop, cmdReserved6To7 _, cmdReservedBit3 _, cmdReservedBit4 _,
    cmdReservedBit5 _, cmdReservedBit6 _, cmdReservedBit7 _, cmdReservedBit8 _, cmdReservedBit9 _, cmdReservedBit10 _,
    cmdReservedBit11 _, cmdReservedBit12 _, cmdReservedBit13 _, cmdReservedBit14 _, cmdReservedBit15 _,
    cmdReservedBit16 _, cmdReservedBit17 _, cmdReservedBit18 _, cmdReservedBit19 _, cmdReservedBit20 _,
    cmdReservedBit21 _, cmdReservedBit22 _, cmdReservedBit23 _, cmdReservedBit24 _, cmdReservedBit25 _,
    cmdReservedBit26 _, cmdReservedBit27 _, cmdReservedBit28 _, cmdReservedBit29 _, cmdReservedBit30 _,
    cmdReservedBit31 _, wrStatus _, wrCtrl _, wrCfgF _, wrCfgWnd _, wrCfgLat _, wrCfgThr _, wrEffFIllegal _,
    wrEffOIllegal _, wrEffWIllegal _, wrEffLIllegal _, wrRatioIllegal _, wrAvgIllegal _, wrInLevelIllegal _,
    wrOutLevelIllegal _, wrReserved3C _, wrUnmapped40To7F _ _, wrUnmapped80ToFF _ _, wrMisaligned1 _ _,
    wrMisaligned2 _ _, wrMisaligned3 _ _, rdCmd, rdStatus, rdCtrl, rdCfgF, rdCfgWnd, rdCfgLat, rdCfgThr, rdEffF,
    rdEffO, rdEffW, rdEffL, rdRatio, rdAvg, rdInLevel, rdOutLevel, rdReserved3C, rdUnmapped40To7F _,
    rdUnmapped80ToFF _, rdMisaligned1 _, rdMisaligned2 _, rdMisaligned3 _, push _ _, pop, autostep, reset]

end

theorem selects_pop {key : BitVec 65} (h : key.getLsbD 64 = true) :
    (Request.transfer key).selects Instr.pop.row = true := by
  have hkey : key.toNat &&& 2 ^ 64 = 2 ^ 64 := by rw [Nat.and_two_pow, BitVec.testBit_toNat, h]; rfl
  exact Bool.and_eq_true_iff.2 ⟨rfl, decide_eq_true hkey⟩

/-- Settles O2: the request of an operation selects its row, and a POP's key by its direction bit. -/
theorem decodedOperationIsOfItsTableRow : Obligations.DecodedOperationIsOfItsTableRow := by
  intro r i h
  obtain hof | ⟨rfl, key, rfl, hdir⟩ := isOf_of_decode h
  · have ⟨hi, _⟩ := hof
    exact ⟨hi, selects_of_isOf hof⟩
  · exact ⟨rfl, selects_pop hdir⟩

/-! ### The rows of the table are disjoint (R90) -/

/-- One operation of every row. -/
def oneOfEachRow : List Instr :=
  [.nop, .init, .proc, .flush, .setthr, .stop, .cmdReserved6To7 0, .cmdReservedBit3 0, .cmdReservedBit4 0,
    .cmdReservedBit5 0, .cmdReservedBit6 0, .cmdReservedBit7 0, .cmdReservedBit8 0, .cmdReservedBit9 0,
    .cmdReservedBit10 0, .cmdReservedBit11 0, .cmdReservedBit12 0, .cmdReservedBit13 0, .cmdReservedBit14 0,
    .cmdReservedBit15 0, .cmdReservedBit16 0, .cmdReservedBit17 0, .cmdReservedBit18 0, .cmdReservedBit19 0,
    .cmdReservedBit20 0, .cmdReservedBit21 0, .cmdReservedBit22 0, .cmdReservedBit23 0, .cmdReservedBit24 0,
    .cmdReservedBit25 0, .cmdReservedBit26 0, .cmdReservedBit27 0, .cmdReservedBit28 0, .cmdReservedBit29 0,
    .cmdReservedBit30 0, .cmdReservedBit31 0, .wrStatus 0, .wrCtrl 0, .wrCfgF 0, .wrCfgWnd 0, .wrCfgLat 0, .wrCfgThr 0,
    .wrEffFIllegal 0, .wrEffOIllegal 0, .wrEffWIllegal 0, .wrEffLIllegal 0, .wrRatioIllegal 0, .wrAvgIllegal 0,
    .wrInLevelIllegal 0, .wrOutLevelIllegal 0, .wrReserved3C 0, .wrUnmapped40To7F 0 0, .wrUnmapped80ToFF 0 0,
    .wrMisaligned1 0 0, .wrMisaligned2 0 0, .wrMisaligned3 0 0, .rdCmd, .rdStatus, .rdCtrl, .rdCfgF, .rdCfgWnd, .rdCfgLat,
    .rdCfgThr, .rdEffF, .rdEffO, .rdEffW, .rdEffL, .rdRatio, .rdAvg, .rdInLevel, .rdOutLevel, .rdReserved3C,
    .rdUnmapped40To7F 0, .rdUnmapped80ToFF 0, .rdMisaligned1 0, .rdMisaligned2 0, .rdMisaligned3 0, .push 0 0, .pop,
    .autostep, .reset]

theorem row_mem (i : Instr) : i.row ∈ oneOfEachRow.map Instr.row := by
  have h : (oneOfEachRow.map Instr.row)[i.ctorIdx]? = some i.row := by cases i <;> rfl
  exact List.mem_of_getElem? h

/-- Two rows over the same keys that agree in every bit both of them fix. -/
abbrev Row.Meets (a b : Row) : Prop := a.space = b.space ∧ a.pattern &&& b.mask = b.pattern &&& a.mask

theorem Row.meets_of_selects {r : Request} {a b : Row} (ha : r.selects a = true) (hb : r.selects b = true) :
    a.Meets b := by
  simp only [Request.selects, Bool.and_eq_true, decide_eq_true_eq] at ha hb
  obtain ⟨hsa, hka⟩ := ha
  obtain ⟨hsb, hkb⟩ := hb
  refine ⟨hsa.symm.trans hsb, ?_⟩
  rw [← hka, ← hkb, Nat.and_assoc, Nat.and_assoc, Nat.and_comm a.mask]

/-- The finite check on the table: rows that meet are one row. -/
theorem Row.eq_of_meets :
    ∀ a ∈ oneOfEachRow.map Instr.row, ∀ b ∈ oneOfEachRow.map Instr.row, a.Meets b → a = b := by
  decide +kernel

/-- Settles O3: two rows that one key selects meet. -/
theorem tableRowsAreDisjoint : Obligations.TableRowsAreDisjoint := fun _ i j hi hj =>
  Row.eq_of_meets i.row (row_mem i) j.row (row_mem j) (Row.meets_of_selects hi hj)

end Sys2Proof

/-! ### The reserved command words (R100, R242) -/

namespace Sys2Proof.Machine

/-- From 6 up every branch of the command decoder is a reserved row. -/
theorem actionOf_decodeCommand_of_ge {w : Word} (hw : 6 ≤ w.toNat) : actionOf (decodeCommand w) = .raised .seq := by
  iterate 6 refine iteInduction (motive := fun i => actionOf i = .raised .seq) (fun _ => by omega) fun _ => ?_
  iterate 29 refine iteInduction (motive := fun i => actionOf i = .raised .seq) (fun _ => rfl) fun _ => ?_
  rfl

/-- Settles O25: all thirty rows are `State.refuseCommand`. -/
theorem reservedCommandsRaiseSequenceError : Obligations.ReservedCommandsRaiseSequenceError := by
  refine ⟨fun w s hw => ⟨decodeCommand w, rfl, ?_⟩, fun _ _ => ?_⟩
  · rw [exec_eq_run, actionOf_decodeCommand_of_ge hw]; rfl
  · and_intros <;> rfl

/-! ### The load of a block (R104, R152) -/

variable {S : Type} {P : Params S} {s : State S} {n j : Nat}

/-- Position `j` below `n` holds the value of sample `j`. -/
theorem State.loaded_getElem?_lt {x : Sample} (hj : j < n) (hx : s.inq[j]? = some x) :
    (s.loaded P n)[j]? = some (cplx P.num (fun c => P.nonFinite s.tick (2 * j + c)) s.mode x) := by
  have htake : (s.inq.take n)[j]? = some x := by rw [List.getElem?_take_of_lt hj, hx]
  have hlen : j < (s.inq.take n).length := (List.getElem?_eq_some_iff.1 htake).1
  rw [State.loaded, loadInput_getElem?_lt (by rwa [inputValues_length]), inputValues, List.getElem?_mapIdx, htake]
  rfl

theorem State.loaded_getElem?_ge (hj : n ≤ j) : (s.loaded P n)[j]? = s.fin[j]? := by
  refine loadInput_getElem?_ge ?_
  rw [inputValues_length, List.length_take]
  exact (Nat.min_le_left _ _).trans hj

theorem wordValue_of_dec32 {N : Numerics S} {bad : Word → S} {w : Word} {a : S} (h : dec32 N w = some a) :
    wordValue N bad w = a := by
  rw [wordValue, h]; rfl

/-- Settles O44, from the value of each position of the loaded input. -/
theorem loadWritesTheSamplesTaken : Obligations.LoadWritesTheSamplesTaken := by
  refine fun S P s n j _ => ⟨fun x a b hj hx ha => ?_, State.loaded_getElem?_ge⟩
  rw [State.loaded_getElem?_lt hj hx]
  refine ⟨fun hm => ?_, fun hm hb => ?_⟩
  · rw [hm, cplx, wordValue_of_dec32 ha]
  · rw [hm, cplx, wordValue_of_dec32 ha, wordValue_of_dec32 hb]

/-! ### Words written out and pseudo-instructions (R90, R96, R107) -/

/-- Settles O4, by evaluation. -/
theorem writtenOutWordsDecode : Obligations.WrittenOutWordsDecode := ⟨rfl, rfl, rfl, rfl, rfl, rfl, rfl, rfl⟩

/-- `MODE` is bit 1 of the word CONFIG writes to CTRL, `AUTO` bit 0 (R32, R107). -/
theorem ctrlWord_eq (mode auto : Bool) :
    (BitVec.ofBool mode ++ BitVec.ofBool auto).setWidth 32 = BitVec.ofNat 32 (2 * mode.toNat + auto.toNat) := by
  revert mode auto; decide

/-- Settles O5, by evaluation but for the word written to CTRL and the two outcomes of a DRAIN round. -/
theorem pseudoInstructionsExpand : Obligations.PseudoInstructionsExpand := by
  refine fun f wnd lat thr v mode auto => ⟨?_, rfl, rfl, ?_⟩
  · rw [← ctrlWord_eq]; rfl
  · rw [pseudoDrainRound, apply_ite (List.map decode)]; rfl

end Sys2Proof.Machine

/-! ### The commands that make, change and end a stage (R120, R121, R123, R130, R134, R138) -/

namespace Sys2Proof.Machine

/-- Settles O16. -/
theorem nopChangesNothing : Obligations.NopChangesNothing := ⟨rfl, fun _ => rfl⟩

variable {S : Type} {P : Params S} {s t : State S}

theorem State.not_conf_of_unconf (h : s.st = .unconf) : ¬s.conf = true :=
  ne_true_of_eq_false ((State.conf_eq_false_iff s).2 h)

/-- The threshold's value where INIT accepts it and the length (R103, R126); `none` is ERR_CFG (R241). -/
def State.acceptedThreshold (P : Params S) (s : State S) : Option S :=
  if P.supported (deriveF s.cfgF) then dec32 P.num s.cfgThr else none

theorem State.acceptedThreshold_eq_none
    (h : P.supported (deriveF s.cfgF) = false ∨ dec32 P.num s.cfgThr = none) : s.acceptedThreshold P = none := by
  unfold State.acceptedThreshold
  split_ifs with hF
  · exact h.resolve_left (ne_false_of_eq_true hF)
  · rfl

theorem State.acceptedThreshold_eq_some {d : S} (hF : P.supported (deriveF s.cfgF) = true)
    (hd : dec32 P.num s.cfgThr = some d) : s.acceptedThreshold P = some d :=
  (if_pos hF).trans hd

theorem State.initCommand_of_idle (h : s.st = .idle) : s.initCommand P = s.raise .seq := if_pos ((State.conf_iff s).2 h)

/-- INIT without a stage: ERR_CFG or a fresh stage, by the accepted threshold. -/
theorem State.initCommand_of_unconf (h : s.st = .unconf) : s.initCommand P =
    (s.acceptedThreshold P).elim (s.raise .cfg) fun d => s.startStage P (P.num.db2ratio d) := by
  rw [State.initCommand, if_neg (State.not_conf_of_unconf h), State.acceptedThreshold]
  split_ifs
  · unfold thresholdRatio
    cases dec32 P.num s.cfgThr <;> rfl
  · rfl

theorem State.initCommand_of_not_accepted (h : s.st = .unconf) (hd : s.acceptedThreshold P = none) :
    s.initCommand P = s.raise .cfg := by
  rw [State.initCommand_of_unconf h, hd]; rfl

theorem State.initCommand_of_accepted (h : s.st = .unconf) {d : S} (hd : s.acceptedThreshold P = some d) :
    s.initCommand P = s.startStage P (P.num.db2ratio d) := by
  rw [State.initCommand_of_unconf h, hd]; rfl

/-- Settles O17, by the accepted threshold. -/
theorem initMakesAStageOrRefuses : Obligations.InitMakesAStageOrRefuses := by
  refine ⟨rfl, fun s h => congrArg Host.Outcome.next (State.initCommand_of_idle h), fun s h => ?_, fun S P s =>
    ⟨fun h => congrArg Host.Outcome.next (State.initCommand_of_idle h), fun h hbad => ?_, fun d h hF hd => ?_⟩⟩
  · refine congrArg Host.Outcome.next ?_
    split
    next hd => exact State.initCommand_of_not_accepted h hd
    next d hd => exact State.initCommand_of_accepted h hd
  · exact congrArg Host.Outcome.next (State.initCommand_of_not_accepted h (State.acceptedThreshold_eq_none hbad))
  · exact congrArg Host.Outcome.next (State.initCommand_of_accepted h (State.acceptedThreshold_eq_some hF hd))

theorem State.setthrCommand_of_unconf (h : s.st = .unconf) : s.setthrCommand P = s.raise .seq :=
  if_neg (State.not_conf_of_unconf h)

/-- SETTHR on a live stage: the value of the threshold, if it has one, gives the ratio. -/
theorem State.setthrCommand_of_idle (h : s.st = .idle) : s.setthrCommand P =
    (dec32 P.num s.cfgThr).elim s fun d => s.setRatio (P.num.db2ratio d) := by
  rw [State.setthrCommand, if_pos ((State.conf_iff s).2 h), thresholdRatio]
  cases dec32 P.num s.cfgThr <;> rfl

/-- Settles O20. -/
theorem setthrReplacesTheRatio : Obligations.SetthrReplacesTheRatio := by
  refine ⟨rfl, fun s => ⟨fun h => congrArg Host.Outcome.next (State.setthrCommand_of_unconf h), fun h hd => ?_,
    fun d h hd => ?_⟩⟩ <;>
  · refine congrArg Host.Outcome.next ((State.setthrCommand_of_idle h).trans ?_)
    rw [hd]; rfl

theorem execStop_of_idle (h : s.st = .idle) : execStop s = .next s.stopStage :=
  congrArg Host.Outcome.next (if_pos ((State.conf_iff s).2 h))

theorem execStop_of_unconf (h : s.st = .unconf) : execStop s = .next (s.raise .seq) :=
  congrArg Host.Outcome.next (if_neg (State.not_conf_of_unconf h))

/-- Without a stage the live bits CONF, CANPROC and IN_READY of STATUS read 0 (R31). -/
theorem State.statusWord_of_unconf (h : s.st = .unconf) : (s.statusWord P).getLsbD 0 = false ∧
    (s.statusWord P).getLsbD 3 = false ∧ (s.statusWord P).getLsbD 4 = false := by
  have hc := (State.conf_eq_false_iff s).2 h
  have hbits := s.statusWord_levelOutputs P
  simp only [State.levelOutputs, State.canProcess, State.inReady, hc, Bool.false_and, List.map_cons,
    List.cons.injEq] at hbits
  obtain ⟨h0, -, -, h3, h4, -⟩ := hbits
  exact ⟨h0.symm, h3.symm, h4.symm⟩

/-- Without a stage no AUTOSTEP is enabled (R220). -/
theorem State.autoEnabled_of_unconf (h : s.st = .unconf) : s.autoEnabled P = false := by
  rw [State.autoEnabled, State.canProcess, (State.conf_eq_false_iff s).2 h, Bool.false_and, Bool.false_and, Bool.and_false]

/-- Settles O21: after STOP there is no stage. -/
theorem stopDestroysTheStage : Obligations.StopDestroysTheStage :=
  ⟨rfl, fun s => ⟨fun h =>
    have ⟨hconf, hcanproc, hready⟩ := State.statusWord_of_unconf s.stopStage_st
    ⟨s.stopStage, execStop_of_idle h, rfl, hconf, hcanproc, hready, State.autoEnabled_of_unconf s.stopStage_st⟩,
    execStop_of_unconf⟩⟩

/-- What an action that changes the sequencer state is, and from where to where. -/
theorem Action.Does.st_changes {a : Action} (h : a.Does P s t) (hst : t.st ≠ s.st) :
    (a = .reset ∧ t.st = .unconf) ∨ (a = init ∧ s.st = .unconf ∧ t.st = .idle) ∨
      (a = stop ∧ s.st = .idle ∧ t.st = .unconf) := by
  cases h with
  | reset => exact .inl ⟨rfl, rfl⟩
  | started _ hs => exact .inr (.inl ⟨rfl, hs, rfl⟩)
  | stopped hs => exact .inr (.inr ⟨rfl, hs, rfl⟩)
  | raised | popped => simp at hst
  | _ => exact absurd rfl hst

/-- Settles O36, by what each action can do. -/
theorem lifecycleChangesInThreeWays : Obligations.LifecycleChangesInThreeWays := by
  refine ⟨fun i s t h hst => ?_, fun s t h => ?_, fun s t hs h => ?_, fun s t hs h => ?_⟩
  · exact ((does_of_exec h).st_changes hst).imp (.imp_left fun ha => eq_of_actionOf_eq ha rfl)
      (.imp (.imp_left fun ha => eq_of_actionOf_eq ha rfl) (.imp_left fun ha => eq_of_actionOf_eq ha rfl))
  · rw [eq_run_of_exec h]; rfl
  · obtain rfl : t = s.initCommand thePart := eq_run_of_exec h
    rw [State.initCommand_of_unconf hs]
    cases s.acceptedThreshold thePart with
    | none => exact .inl rfl
    | some d => exact .inr rfl
  · cases (execStop_of_idle hs).symm.trans h
    exact s.stopStage_st

/-! ### The ratio in the reference instance (R9, R123) -/

theorem numR_db2ratio_pos (d : ℝ) : 0 < numR.db2ratio d := Real.rpow_pos_of_pos (by norm_num) _

theorem numR_db2ratio_strictMono : StrictMono numR.db2ratio := fun d e h =>
  Real.rpow_lt_rpow_of_exponent_lt (by norm_num) (by linarith)

/-- Every 20 dB are a factor of ten. -/
theorem numR_db2ratio_twenty_mul (k : ℤ) : numR.db2ratio (20 * k) = 10 ^ k := by
  rw [numR_db2ratio, mul_div_cancel_left₀ _ (by norm_num), Real.rpow_intCast]

/-- Settles O57: the three values are at -2, 0 and 1 times 20 dB. -/
theorem ratioIncreasesWithTheThreshold : Obligations.RatioIncreasesWithTheThreshold := by
  refine ⟨fun d => ⟨numR_db2ratio d, numR_db2ratio_pos d⟩, fun d e h => numR_db2ratio_strictMono h, ?_, ?_, ?_⟩
  · simpa using numR_db2ratio_twenty_mul 0
  · calc numR.db2ratio (-40) = numR.db2ratio (20 * (-2 : ℤ)) := by norm_num
      _ = 10 ^ (-2 : ℤ) := numR_db2ratio_twenty_mul (-2)
      _ = 1 / 100 := by norm_num
  · simpa using numR_db2ratio_twenty_mul 1

end Sys2Proof.Machine

/-! ### PROC and FLUSH by their cases (R150, R162) -/

namespace Sys2Proof.Machine

variable {S : Type} {P : Params S} {s : State S}

theorem State.procCommand_of_canProcess (h : s.canProcess P = true) : s.procCommand P = s.runBlock P s.block := if_pos h

theorem State.procCommand_of_not_canProcess (h : ¬s.canProcess P = true) : s.procCommand P = s.raise .seq := if_neg h

/-- Settles O22, by `canProcess`. -/
theorem procRunsAFullBlock : Obligations.ProcRunsAFullBlock := by
  refine ⟨rfl, fun s => ⟨fun hst hin hout => ?_, fun h => ?_⟩⟩
  · exact congrArg Host.Outcome.next
      (State.procCommand_of_canProcess ((State.canProcess_iff thePart s).2 ⟨hst, hin, hout⟩))
  · exact congrArg Host.Outcome.next
      (State.procCommand_of_not_canProcess fun hc => h ((State.canProcess_iff thePart s).1 hc))

theorem State.flushCommand_of_unconf (h : s.st = .unconf) : s.flushCommand P = s.raise .seq :=
  if_neg (State.not_conf_of_unconf h)

/-- FLUSH on a live stage looks at the input left and at the room in `outq`. -/
theorem State.flushCommand_of_idle (h : s.st = .idle) : s.flushCommand P =
    if s.flushCount = 0 then s
    else if s.flushCount ≤ P.capOut - s.outq.length then s.runBlock P s.flushCount else s.raise .seq :=
  if_pos ((State.conf_iff s).2 h)

/-- Where a full block of input is left, FLUSH is PROC. -/
theorem State.flushCommand_of_full_block (h : s.st = .idle) (hblock : 0 < s.block) (hin : s.block ≤ s.inq.length) :
    s.flushCommand P = s.procCommand P := by
  have hcount : s.flushCount = s.block := min_eq_right hin
  rw [State.flushCommand_of_idle h, hcount, if_neg hblock.ne']
  exact if_congr (by rw [State.canProcess_iff]; simp [h, hin]) rfl rfl

/-- Settles O23. -/
theorem flushRunsWhatIsLeft : Obligations.FlushRunsWhatIsLeft := by
  refine ⟨rfl, fun s n hn => ?_, fun s h hO hin => ?_⟩
  · obtain rfl : n = s.flushCount := hn
    refine ⟨fun h => congrArg Host.Outcome.next (State.flushCommand_of_unconf h), fun h h0 => ?_,
      fun h hpos hout => ?_, fun h hpos hout => ?_⟩ <;>
      refine congrArg Host.Outcome.next ((State.flushCommand_of_idle h).trans ?_)
    · exact if_pos h0
    · rw [if_neg hpos.ne', if_neg hout.not_ge]; rfl
    · rw [if_neg hpos.ne', if_pos hout]; rfl
  · exact congrArg Host.Outcome.next (State.flushCommand_of_full_block h (Nat.sub_pos_of_lt hO) hin)

end Sys2Proof.Machine

/-! ### Crossfade, new carry and emission (R157, R158) -/

namespace Sys2Proof.Machine

section Generic

variable {S : Type} (N : Numerics S) {F O n i : Nat} {rec carry : List (Cplx S)}

theorem elem_of_getElem? {v : List (Cplx S)} {x : Cplx S} (h : v[i]? = some x) : elem N v i = x := by
  rw [elem, List.getD_eq_getElem?_getD, h, Option.getD_some]

/-- Each crossfaded sample (R157). -/
theorem crossfade_getElem? (rec carry : List (Cplx S)) (hi : i < O) : (crossfade N O rec carry)[i]? =
    some (cadd N (cscale N (elem N rec i) (weight N O i))
      (cscale N (elem N carry i) (N.sub (N.ofNat 1) (weight N O i)))) := by
  rw [crossfade, List.getElem?_map, List.getElem?_range hi, Option.map_some]

/-- The new carry is the last `O` reconstructed samples (R157). -/
theorem newCarry_getElem? (hrec : rec.length = F) (hO : O ≤ F) (hi : i < O) :
    (newCarry N F O rec)[i]? = rec[F - O + i]? := by
  have hlt : F - O + i < rec.length := by omega
  have hx : rec[F - O + i]? = some rec[F - O + i] := List.getElem?_eq_getElem hlt
  rw [newCarry, List.getElem?_map, List.getElem?_range hi, Option.map_some, elem_of_getElem? N hx, hx]

/-- Each emitted sample (R158). -/
theorem blockOut_getElem? (mode : Mode) (rec carry : List (Cplx S)) (hi : i < n) :
    (blockOut N O n mode rec carry)[i]? =
      some (outWords N mode (if i < O then elem N (crossfade N O rec carry) i else elem N rec i)) := by
  rw [blockOut, emit, List.getElem?_map, List.getElem?_map, List.getElem?_range hi, Option.map_some, Option.map_some]

end Generic

/-- At position 0 the carry has the whole weight (R157). -/
theorem crossfade_numR_zero {O : ℕ} (rec : List (Cplx ℝ)) {carry : List (Cplx ℝ)} {x : Cplx ℝ} (hO : 1 ≤ O)
    (hx : carry[0]? = some x) : (crossfade numR O rec carry)[0]? = some x := by
  rw [crossfade_getElem? numR rec carry hO, elem_of_getElem? numR hx]
  simp [weight, cadd, cscale]

/-- Settles O49. -/
theorem crossfadeAndTail : Obligations.CrossfadeAndTail := by
  refine ⟨fun S N F O rec carry hrec hO => ⟨fun i x y a hi hx hy ha => ?_, fun j hj => ?_⟩,
    fun O rec carry x hO hx => crossfade_numR_zero rec hO hx⟩
  · rw [crossfade_getElem? N rec carry hi, elem_of_getElem? N hx, elem_of_getElem? N hy, ha]
    rfl
  · exact newCarry_getElem? N hrec hO hj

variable {S : Type}

/-- What a block emits stands behind what was in `outq` (R151). -/
theorem State.runBlock_outq_getElem? (P : Params S) (s : State S) (n i : Nat) :
    (s.runBlock P n).outq[s.outq.length + i]? = (blockOut P.num s.O n s.mode (s.blockRec P n) s.carry)[i]? := by
  rw [State.runBlock_outq, List.getElem?_append_right (Nat.le_add_right _ _), Nat.add_sub_cancel_left]

/-- Settles O50, from each emitted sample. -/
theorem emissionConvertsToTheSampleKind : Obligations.EmissionConvertsToTheSampleKind := by
  refine ⟨fun S N O n i rec carry z hi hhead hrec => ?_, fun S P s n i _ =>
    ⟨List.take_left, s.runBlock_outq_length n, s.runBlock_outq_getElem? P n i⟩⟩
  have hz : (if i < O then elem N (crossfade N O rec carry) i else elem N rec i) = z := by
    split_ifs with hO
    · exact elem_of_getElem? N (hhead hO)
    · exact elem_of_getElem? N (hrec (not_lt.1 hO))
  rw [blockOut_getElem? N .real rec carry hi, blockOut_getElem? N .complex rec carry hi, hz]
  exact ⟨rfl, rfl⟩

end Sys2Proof.Machine

/-! ### Zeros through a block (R8, R160, R190) -/

namespace Sys2Proof.Machine

section Generic

variable {S : Type} {N : Numerics S}

/-- Bin `i` after the gate: scaled by the gain of its count, or zeroed (R190). -/
theorem gateBins_getElem? (N : Numerics S) {F : Nat} (W L : Nat) (ratio avg : S) {bins : List (Cplx S)} {i : Nat}
    {z : Cplx S} (hi : i < F) (hz : bins[i]? = some z) : (gateBins N F W L ratio avg bins)[i]? =
      some (scaleBin N W (windowCount F W (openMarks N L ratio avg bins) i) z) := by
  rw [gateBins, List.getElem?_zipWith, hz, counts, List.getElem?_map, List.getElem?_range hi]
  rfl

/-- Every bin after the gate is a bin before it, scaled by its count. -/
theorem exists_scaleBin_of_mem_gateBins {F W L : Nat} {ratio avg : S} {bins : List (Cplx S)} {z : Cplx S}
    (h : z ∈ gateBins N F W L ratio avg bins) :
    ∃ i, ∃ y ∈ bins, z = scaleBin N W (windowCount F W (openMarks N L ratio avg bins) i) y := by
  obtain ⟨i, hi, rfl⟩ := List.getElem_of_mem h
  rw [gateBins_length, lt_min_iff] at hi
  obtain ⟨hiF, hib⟩ := hi
  have hz := gateBins_getElem? N W L ratio avg hiF (List.getElem?_eq_getElem hib)
  exact ⟨i, bins[i], List.getElem_mem hib, (List.getElem?_eq_some_iff.1 hz).2⟩

theorem getD_of_forall_eq {α : Type} {l : List α} {d : α} (h : ∀ x ∈ l, x = d) (i : Nat) : l.getD i d = d := by
  rw [List.eq_replicate_of_mem h, List.getD_eq_getElem?_getD, List.getElem?_getD_replicate_default_eq]

/-- No open bin, no count. -/
theorem windowCount_of_closed (F W : Nat) {g : List Bool} (hg : ∀ m ∈ g, m = false) (i : Nat) :
    windowCount F W g i = 0 :=
  List.countP_eq_zero.2 fun _ _ => ne_true_of_eq_false (getD_of_forall_eq hg _)

/-- A gate with every bin closed zeroes every bin outright (R190). -/
theorem gateBins_of_closed {F W L : Nat} {ratio avg : S} {bins : List (Cplx S)}
    (hclosed : ∀ m ∈ openMarks N L ratio avg bins, m = false) : ∀ z ∈ gateBins N F W L ratio avg bins, z = N.czero := by
  intro z hz
  obtain ⟨i, y, _, rfl⟩ := exists_scaleBin_of_mem_gateBins hz
  exact if_pos (windowCount_of_closed F W hclosed i)

theorem elem_of_forall_czero {v : List (Cplx S)} (hv : ∀ z ∈ v, z = N.czero) (i : Nat) : elem N v i = N.czero :=
  getD_of_forall_eq hv i

theorem newCarry_of_forall_czero (F O : Nat) {rec : List (Cplx S)} (hrec : ∀ z ∈ rec, z = N.czero) :
    newCarry N F O rec = List.replicate O N.czero := by
  simp [newCarry, elem_of_forall_czero hrec]

end Generic

end Sys2Proof.Machine

namespace Sys2Proof.Numerics.ZeroLaws

open Machine

variable {S : Type} {N : Numerics S} (laws : N.ZeroLaws)
include laws

theorem cscale_czero (a : S) : cscale N N.czero a = N.czero := by
  simp [cscale, Numerics.czero, laws.zero_mul]

theorem czero_cadd (z : Cplx S) : cadd N N.czero z = z := by
  simp [cadd, Numerics.czero, laws.zero_add]

theorem outWords_czero (mode : Mode) : outWords N mode N.czero = ⟨0, 0⟩ := by
  cases mode <;> simp [outWords, Numerics.czero, laws.enc_zero]

theorem dec32_zero : dec32 N 0 = some N.zero := by
  rw [dec32, if_pos (by decide), laws.dec_zero]

/-- The value of a zero sample; a REAL sample's `im` does not count (R104). -/
theorem cplx_of_zero (bad : Nat → Word → S) {mode : Mode} {x : Sample} (hre : x.re = 0)
    (him : mode = .complex → x.im = 0) : cplx N bad mode x = N.czero := by
  have hzero : ∀ c, wordValue N (bad c) 0 = N.zero := fun c => wordValue_of_dec32 laws.dec32_zero
  cases mode with
  | real => rw [cplx, hre, hzero]; rfl
  | complex => rw [cplx, hre, him rfl, hzero, hzero]; rfl

theorem forward_czero {fin : List (Cplx S)} (hfin : ∀ z ∈ fin, z = N.czero) : ∀ z ∈ forward N fin, z = N.czero := by
  intro z hz
  obtain ⟨k, _, rfl⟩ := List.mem_map.1 hz
  exact laws.fwd_zero fin k hfin

/-- A zero bin stays zero, whatever its gain. -/
theorem gateBins_czero {F W L : Nat} {ratio avg : S} {bins : List (Cplx S)} (hbins : ∀ z ∈ bins, z = N.czero) :
    ∀ z ∈ gateBins N F W L ratio avg bins, z = N.czero := by
  intro z hz
  obtain ⟨i, y, hy, rfl⟩ := exists_scaleBin_of_mem_gateBins hz
  rw [hbins y hy, scaleBin, laws.cscale_czero, ite_self]

theorem reconstruct_czero {F : Nat} (hF : 1 ≤ F) {bins : List (Cplx S)} (hbins : ∀ z ∈ bins, z = N.czero) :
    ∀ z ∈ reconstruct N F bins, z = N.czero := by
  intro z hz
  obtain ⟨m, _, rfl⟩ := List.mem_map.1 hz
  simp [laws.inv_zero bins m hbins, Numerics.czero, laws.zero_div F hF]

/-- Where the reconstruction is zero a block emits the faded old carry, then zeros (R160). -/
theorem blockOut_getElem?_of_forall_czero (O : Nat) {n i : Nat} (mode : Mode) {rec : List (Cplx S)}
    (hrec : ∀ z ∈ rec, z = N.czero) (carry : List (Cplx S)) (hi : i < n) :
    (blockOut N O n mode rec carry)[i]? = some (outWords N mode
      (if i < O then cscale N (elem N carry i) (N.sub (N.ofNat 1) (weight N O i)) else N.czero)) := by
  rw [blockOut_getElem? N mode rec carry hi]
  split_ifs with hO
  · rw [elem_of_getElem? N (crossfade_getElem? N rec carry hO), elem_of_forall_czero hrec, laws.cscale_czero,
      laws.czero_cadd]
  · rw [elem_of_forall_czero hrec]

/-- Where the old carry is zero too, a block emits zero words only. -/
theorem blockOut_of_forall_czero (O n : Nat) (mode : Mode) {rec carry : List (Cplx S)} (hrec : ∀ z ∈ rec, z = N.czero)
    (hcarry : ∀ z ∈ carry, z = N.czero) : blockOut N O n mode rec carry = List.replicate n ⟨0, 0⟩ := by
  refine List.eq_replicate_iff.2 ⟨blockOut_length N O n mode rec carry, fun x hx => ?_⟩
  obtain ⟨i, hi, rfl⟩ := List.getElem_of_mem hx
  rw [blockOut_length] at hi
  have hx := laws.blockOut_getElem?_of_forall_czero O mode hrec carry hi
  rw [elem_of_forall_czero hcarry, laws.cscale_czero, ite_self, laws.outWords_czero] at hx
  exact (List.getElem?_eq_some_iff.1 hx).2

end Sys2Proof.Numerics.ZeroLaws

namespace Sys2Proof.Machine

variable {S : Type} {P : Params S} {s : State S}

/-- A live stage has a length of at least 32 (R6, R36). -/
theorem State.Inv.le_F (h : s.Inv P) (hP : PartOk P) (hst : s.st = .idle) : 32 ≤ s.F :=
  (of_decide_eq_true (hP.supported_fits s.F (h.supported hst))).1

/-- With a full block of zero samples loaded the whole transform input is zero: past the block it always is (R33). -/
theorem State.Inv.loaded_czero (h : s.Inv P) (hP : PartOk P) (hst : s.st = .idle) (hin : s.F - s.O ≤ s.inq.length)
    (hzero : ∀ x ∈ s.inq.take (s.F - s.O), x.re = 0 ∧ (s.mode = .complex → x.im = 0)) :
    ∀ z ∈ s.loaded P (s.F - s.O), z = P.num.czero := by
  intro z hz
  obtain ⟨j, hj⟩ := List.mem_iff_getElem?.1 hz
  rcases lt_or_ge j (s.F - s.O) with hlt | hge
  · have hx : s.inq[j]? = some s.inq[j] := List.getElem?_eq_getElem (hlt.trans_le hin)
    obtain ⟨hre, him⟩ := hzero s.inq[j] (List.mem_take_iff_getElem.2 ⟨j, lt_min hlt (hlt.trans_le hin), rfl⟩)
    rw [State.loaded_getElem?_lt hlt hx, hP.laws.cplx_of_zero _ hre him] at hj
    exact (Option.some.inj hj).symm
  · rw [State.loaded_getElem?_ge hge] at hj
    have hF : j < s.F := h.fin_length hst ▸ (List.getElem?_eq_some_iff.1 hj).1
    exact Option.some.inj (hj.symm.trans (h.fin_tail hst j hge hF))

/-- Settles O51: the loaded input, the bins and the reconstruction are zero, one after the other. -/
theorem silenceStaysSilent : Obligations.SilenceStaysSilent := by
  intro S P s t hP hinv hproc hcarry hsamples ht
  obtain ⟨hst, hin, _⟩ := (State.canProcess_iff P s).1 hproc
  obtain rfl : s.runBlock P s.block = t := by
    rw [execOf_eq_run] at ht
    exact (State.procCommand_of_canProcess hproc).symm.trans (Host.Outcome.next.inj ht)
  have hF : 1 ≤ s.F := le_trans (by decide) (hinv.le_F hP hst)
  have hbins := hP.laws.forward_czero (hinv.loaded_czero hP hst hin hsamples)
  have hrec : ∀ z ∈ s.blockRec P s.block, z = P.num.czero :=
    hP.laws.reconstruct_czero hF (hP.laws.gateBins_czero hbins)
  exact ⟨congrArg (s.outq ++ ·) (hP.laws.blockOut_of_forall_czero s.O s.block s.mode hrec hcarry),
    newCarry_of_forall_czero s.F s.O hrec⟩

/-- Settles O52: a closed gate makes the reconstruction zero. -/
theorem closedGateEmitsTheFadedCarry : Obligations.ClosedGateEmitsTheFadedCarry := by
  intro S P s n hP hinv hst _ _ hclosed
  have hF : 1 ≤ s.F := le_trans (by decide) (hinv.le_F hP hst)
  have hrec : ∀ z ∈ s.blockRec P n, z = P.num.czero := hP.laws.reconstruct_czero hF (gateBins_of_closed hclosed)
  refine ⟨newCarry_of_forall_czero s.F s.O hrec, fun i hi => ?_⟩
  rw [State.runBlock_outq_getElem?]
  exact hP.laws.blockOut_getElem?_of_forall_czero s.O s.mode hrec s.carry hi

end Sys2Proof.Machine

/-! ### The inverse transform undoes the forward transform (R13, R153, R156) -/

namespace Sys2Proof.Machine

theorem reconstruct_getElem? {S : Type} (N : Numerics S) (F : Nat) {bins : List (Cplx S)} {m : Nat}
    (hm : m < bins.length) : (reconstruct N F bins)[m]? =
      some ⟨N.div (N.inv bins m).re (N.ofNat F), N.div (N.inv bins m).im (N.ofNat F)⟩ := by
  rw [reconstruct, List.getElem?_map, List.getElem?_range hm, Option.map_some]

theorem toComplex_transformR (sign : ℂ) (v : List (Cplx ℝ)) (k : ℕ) : toComplex (transformR sign v k) =
    ∑ m ∈ Finset.range v.length,
      toComplex (v.getD m ⟨0, 0⟩) * Complex.exp (sign * (2 * Real.pi * Complex.I * k * m / v.length)) := rfl

theorem toComplex_forward_getD {fin : List (Cplx ℝ)} {k : ℕ} (hk : k < fin.length) :
    toComplex ((forward numR fin).getD k ⟨0, 0⟩) = toComplex (transformR (-1) fin k) := by
  rw [forward, List.getD_eq_getElem?_getD, List.getElem?_map, List.getElem?_range hk]
  rfl

/-- The factor of a sample at `j` in the value of bin `k` at `m` is the `k`-th power of a root of unity. -/
theorem exp_forward_mul_exp_inverse (F j m k : ℕ) :
    Complex.exp (-1 * (2 * Real.pi * Complex.I * k * j / F)) * Complex.exp (1 * (2 * Real.pi * Complex.I * m * k / F)) =
      (Complex.exp (2 * Real.pi * Complex.I / F) ^ ((m : ℤ) - j)) ^ k := by
  rw [← Complex.exp_add, ← Complex.exp_int_mul, ← Complex.exp_nat_mul]
  push_cast
  ring_nf

/-- Orthogonality: over all `k` these powers add up to `F` where `j` is `m` and cancel where it is not. -/
theorem sum_zpow_pow_of_isPrimitiveRoot {ζ : ℂ} {F j m : ℕ} (hζ : IsPrimitiveRoot ζ F) (hj : j < F) (hm : m < F) :
    ∑ k ∈ Finset.range F, (ζ ^ ((m : ℤ) - j)) ^ k = if j = m then (F : ℂ) else 0 := by
  split_ifs with h
  · simp [h]
  · have hne : ζ ^ ((m : ℤ) - j) ≠ 1 := fun h1 => by
      have hzero := Int.eq_zero_of_abs_lt_dvd ((hζ.zpow_eq_one_iff_dvd _).1 h1) (by rw [abs_lt]; omega)
      omega
    have hone : (ζ ^ ((m : ℤ) - j)) ^ F = 1 := by
      rw [← zpow_natCast, zpow_comm, zpow_natCast, hζ.pow_eq_one, one_zpow]
    rw [geom_sum_eq hne, hone, sub_self, zero_div]

/-- The two transforms one after the other give `F` times the input. -/
theorem toComplex_inv_forward {fin : List (Cplx ℝ)} {m : ℕ} (hm : m < fin.length) :
    toComplex (numR.inv (forward numR fin) m) = fin.length * toComplex fin[m] := by
  rw [numR_inv, toComplex_transformR, forward_length]
  set F := fin.length
  have hroot := Complex.isPrimitiveRoot_exp F (Nat.ne_zero_of_lt hm)
  calc ∑ k ∈ Finset.range F, toComplex ((forward numR fin).getD k ⟨0, 0⟩) *
        Complex.exp (1 * (2 * Real.pi * Complex.I * m * k / F))
    _ = ∑ k ∈ Finset.range F, ∑ j ∈ Finset.range F, toComplex (fin.getD j ⟨0, 0⟩) *
        (Complex.exp (-1 * (2 * Real.pi * Complex.I * k * j / F)) *
          Complex.exp (1 * (2 * Real.pi * Complex.I * m * k / F))) := by
      refine Finset.sum_congr rfl fun k hk => ?_
      rw [toComplex_forward_getD (Finset.mem_range.1 hk), toComplex_transformR, Finset.sum_mul]
      exact Finset.sum_congr rfl fun j _ => mul_assoc _ _ _
    _ = ∑ j ∈ Finset.range F, toComplex (fin.getD j ⟨0, 0⟩) * if j = m then (F : ℂ) else 0 := by
      rw [Finset.sum_comm]
      refine Finset.sum_congr rfl fun j hj => ?_
      simp only [exp_forward_mul_exp_inverse]
      rw [← Finset.mul_sum, sum_zpow_pow_of_isPrimitiveRoot hroot (Finset.mem_range.1 hj) hm]
    _ = F * toComplex fin[m] := by
      simp only [mul_ite, mul_zero, Finset.sum_ite_eq', Finset.mem_range, hm, if_true]
      rw [List.getD_eq_getElem _ _ hm, mul_comm]

/-- With all bins of the window open the gain is 1 (R190). -/
theorem scaleBin_numR_full {W : ℕ} (hW : 1 ≤ W) (z : Cplx ℝ) : scaleBin numR W (2 * W) z = z := by
  have hpos : 2 * W ≠ 0 := by omega
  have hgain : gain numR W (2 * W) = 1 := by
    rw [gain, numR_div, numR_ofNat, div_self (Nat.cast_ne_zero.2 hpos), numR_sqrt, Real.sqrt_one]
  rw [scaleBin, if_neg hpos, hgain]
  simp [cscale]

theorem gateBins_numR_of_full {F W L : ℕ} {ratio avg : ℝ} {bins : List (Cplx ℝ)} (hlen : bins.length = F) (hW : 1 ≤ W)
    (hfull : ∀ i, i < F → windowCount F W (openMarks numR L ratio avg bins) i = 2 * W) :
    gateBins numR F W L ratio avg bins = bins := by
  refine List.ext_getElem? fun i => ?_
  rcases lt_or_ge i F with hi | hi
  · have hz := List.getElem?_eq_getElem (l := bins) (hlen ▸ hi)
    rw [gateBins_getElem? numR W L ratio avg hi hz, hfull i hi, scaleBin_numR_full hW, hz]
  · rw [List.getElem?_eq_none (by simp [hi]), List.getElem?_eq_none (by omega)]

/-- Reconstructing from the transform's own bins gives the input back (R156). -/
theorem reconstruct_forward_numR (fin : List (Cplx ℝ)) : reconstruct numR fin.length (forward numR fin) = fin := by
  refine List.ext_getElem (by simp) fun m _ hm => ?_
  have hF : (fin.length : ℝ) ≠ 0 := Nat.cast_ne_zero.2 (by omega)
  have hinv : numR.inv (forward numR fin) m = ⟨fin.length * fin[m].re, fin.length * fin[m].im⟩ := by
    rw [← ofComplex_toComplex (numR.inv _ _), toComplex_inv_forward hm]
    simp [ofComplex, toComplex]
  have hrec := reconstruct_getElem? numR fin.length (bins := forward numR fin) (by rwa [forward_length])
  rw [hinv, numR_div, numR_div, numR_ofNat, mul_div_cancel_left₀ _ hF, mul_div_cancel_left₀ _ hF] at hrec
  exact (List.getElem?_eq_some_iff.1 hrec).2

/-- Settles O58. -/
theorem openGateReconstructsTheInput : Obligations.OpenGateReconstructsTheInput := by
  refine ⟨fun S N F m bins hlen hm => reconstruct_getElem? N F (hlen ▸ hm), fun bins m => ?_,
    fun F W L ratio avg fin hlen _ hW hfull => ?_⟩
  · rw [numR_inv, toComplex_transformR]
    refine Finset.sum_congr rfl fun k _ => ?_
    rw [one_mul, mul_right_comm _ (m : ℂ)]
  · subst hlen
    rw [blockRec, gateBins_numR_of_full (forward_length numR fin) hW hfull, reconstruct_forward_numR]

end Sys2Proof.Machine

/-! ### The comparator and the gain mask (R181 to R190) -/

namespace Sys2Proof.Machine

section Generic

variable {S : Type} (N : Numerics S)

/-- Every level has a mark: whether it is strictly above the threshold (R186). -/
theorem openMarks_getElem? (L : Nat) (ratio avg : S) (bins : List (Cplx S)) (i : Nat) :
    (openMarks N L ratio avg bins)[i]? =
      (levels N bins)[i]?.map (N.gt · (threshold N (newAverage N L avg bins) ratio)) := by
  rw [openMarks, gates, List.getElem?_map]

/-- Settles O45. -/
theorem comparatorsFollowTheRules : Obligations.ComparatorsFollowTheRules := by
  intro S N L ratio avg bins lv pow avg' hlv hpow havg
  obtain rfl : lv = levels N bins := hlv
  obtain rfl : pow = power N (levels N bins) := hpow
  obtain rfl : avg' = newAverage N L avg bins := havg
  refine ⟨rfl, fun i l hl => ?_⟩
  rw [openMarks_getElem?, hl]
  rfl

/-- Settles O48, by whether the count is 0. -/
theorem gainMaskScalesEachBin : Obligations.GainMaskScalesEachBin := by
  intro S N F W L ratio avg bins i z c hlen hz hc
  have hi : i < F := hlen ▸ (List.getElem?_eq_some_iff.1 hz).1
  rw [gateBins_getElem? N W L ratio avg hi hz, ← hc]
  exact ⟨fun h => congrArg some (if_pos h), fun h => congrArg some (if_neg h)⟩

end Generic

variable {F W : Nat} {g g' : List Bool} {i : Nat}

theorem windowCount_le (F W : Nat) (g : List Bool) (i : Nat) : windowCount F W g i ≤ 2 * W :=
  List.countP_le_length.trans_eq List.length_range

theorem windowCount_eq_count (F W : Nat) (g : List Bool) (i : Nat) : windowCount F W g i =
    Nat.count (fun e => g.getD ((i + F - W + e) % F) false = true) (2 * W) := by
  simp [windowCount, Nat.count]

/-- The bin at an integer position `k`, from a natural number one turn of `F` bins further. -/
theorem toNat_emod_of_add_eq {k : ℤ} {n : Nat} (h : k + F = n) : (k % F).toNat = n % F := by
  rw [← Int.add_emod_right, h, ← Int.natCast_emod, Int.toNat_natCast]

/-- Positions less than `F` apart are different bins. -/
theorem eq_of_add_emod_eq {d e : ℤ} (hlt : |e - d| < F) (h : ((i : ℤ) + d) % F = ((i : ℤ) + e) % F) : d = e := by
  have hdvd : (F : ℤ) ∣ e - d := (Int.ModEq.add_left_cancel' (i : ℤ) h).dvd
  have hzero := Int.eq_zero_of_abs_lt_dvd hdvd hlt
  omega

/-- The window by its signed offsets, from `-W` to `W - 1` (R188). -/
theorem windowCount_eq_card_filter_Ico (hW : W ≤ F) (g : List Bool) (i : Nat) : windowCount F W g i =
    ((Finset.Ico (-(W : ℤ)) W).filter fun d => g.getD (((i : ℤ) + d) % F).toNat false = true).card := by
  have hbin : ∀ e : Nat, (((i : ℤ) + (e - W)) % F).toNat = (i + F - W + e) % F := fun e =>
    toNat_emod_of_add_eq (by omega)
  have hback : ∀ d : ℤ, -(W : ℤ) ≤ d → ((d + W).toNat : ℤ) - W = d := fun d hd => by omega
  rw [windowCount_eq_count, Nat.count_eq_card_filter_range]
  refine Finset.card_nbij' (fun e => (e : ℤ) - W) (fun d => (d + W).toNat) (fun e he => ?_) (fun d hd => ?_)
    (fun e _ => by simp) (fun d hd => ?_)
  · obtain ⟨hlt, hopen⟩ := Finset.mem_filter.1 he
    rw [Finset.mem_range] at hlt
    exact Finset.mem_filter.2 ⟨Finset.mem_Ico.2 (by dsimp only; omega), by rwa [hbin]⟩
  · obtain ⟨hd, hopen⟩ := Finset.mem_filter.1 hd
    rw [Finset.mem_Ico] at hd
    refine Finset.mem_filter.2 ⟨Finset.mem_range.2 (by dsimp only; omega), ?_⟩
    rwa [← hbin, hback d hd.1]
  · exact hback d (Finset.mem_Ico.1 (Finset.mem_filter.1 hd).1).1

/-- Settles O46. -/
theorem windowCountsOpenBinsAround : Obligations.WindowCountsOpenBinsAround := by
  intro F W g i hW hi
  refine ⟨fun d e hd hd' he he' h => eq_of_add_emod_eq (by rw [abs_lt]; omega) h, windowCount F W g i, ?_,
    windowCount_le F W g i, windowCount_eq_card_filter_Ico (by omega) g i⟩
  rw [counts, List.getElem?_map, List.getElem?_range hi, Option.map_some]

/-- From a bin to the next one mark enters the window and one leaves it (R189). -/
theorem windowCount_succ_add_mark (hW : W ≤ F) (g : List Bool) (i : Nat) :
    windowCount F W g (i + 1) + mark g ((i + F - W) % F) = windowCount F W g i + mark g ((i + W) % F) := by
  have hshift : ∀ e, i + 1 + F - W + e = i + F - W + (e + 1) := fun e => by omega
  have hlast : (i + F - W + 2 * W) % F = (i + W) % F := by
    rw [← Nat.add_mod_right (i + W)]
    congr 1
    omega
  simp only [windowCount_eq_count, hshift, mark, ← hlast]
  exact (Nat.count_succ' (fun e => g.getD ((i + F - W + e) % F) false = true) (2 * W)).symm.trans (Nat.count_succ _ _)

/-- The sum over bin 0's window is its count (R188, R189). -/
theorem windowCount_zero_eq_sum_mark (hW : W ≤ F) (g : List Bool) :
    (windowCount F W g 0 : ℤ) = ∑ d ∈ Finset.Ico (-(W : ℤ)) W, (mark g (d % F).toNat : ℤ) := by
  rw [windowCount_eq_card_filter_Ico hW, Finset.card_filter, Nat.cast_sum]
  simp [mark]

/-- A sequence that starts and slides as the source does is the window count (R189). -/
theorem eq_windowCount_of_recurrence (hW : W ≤ F) {c : Nat → ℤ}
    (hzero : c 0 = ∑ d ∈ Finset.Ico (-(W : ℤ)) W, (mark g (d % F).toNat : ℤ))
    (hsucc : ∀ i, i + 1 < F → c (i + 1) = c i + mark g ((i + W) % F) - mark g (((i : ℤ) - W) % F).toNat) :
    ∀ i, i < F → c i = windowCount F W g i := by
  intro i hi
  induction i with
  | zero => rw [hzero, windowCount_zero_eq_sum_mark hW]
  | succ i ih =>
    have hleave : (((i : ℤ) - W) % F).toNat = (i + F - W) % F := toNat_emod_of_add_eq (by omega)
    have hslide := windowCount_succ_add_mark hW g i
    rw [hsucc i hi, ih (by omega), hleave]
    omega

theorem slidingCount_eq_windowCount (hW : W ≤ F) (g : List Bool) (i : Nat) :
    slidingCount F W g i = windowCount F W g i := by
  induction i with
  | zero => rfl
  | succ i ih =>
    have hslide := windowCount_succ_add_mark hW g i
    rw [slidingCount, ih]
    omega

/-- Settles O47, by induction on the bin. -/
theorem slidingCountIsTheWindowCount : Obligations.SlidingCountIsTheWindowCount := by
  intro F W g hW
  have hWF : W ≤ F := by omega
  refine ⟨fun c hzero hsucc i hi => ?_, fun i _ => slidingCount_eq_windowCount hWF g i⟩
  have hle := windowCount_le F W g i
  rw [eq_windowCount_of_recurrence hWF hzero hsucc i hi]
  exact ⟨rfl, by omega, by omega⟩

theorem getD_false_eq_true_iff : g.getD i false = true ↔ g[i]? = some true := by
  rw [List.getD_eq_getElem?_getD]
  cases g[i]? <;> simp

/-- With no further bin open no count grows. -/
theorem windowCount_mono (F W : Nat) (h : ∀ j : Nat, g'[j]? = some true → g[j]? = some true) (i : Nat) :
    windowCount F W g' i ≤ windowCount F W g i :=
  List.countP_mono_left fun _ _ hopen => getD_false_eq_true_iff.2 (h _ (getD_false_eq_true_iff.1 hopen))

/-! #### The reference instance (R187) -/

theorem threshold_numR_mono {avg ratio ratio' : ℝ} (havg : 0 ≤ avg) (h : ratio ≤ ratio') :
    threshold numR avg ratio ≤ threshold numR avg ratio' :=
  mul_le_mul_of_nonneg_left h havg

/-- A bin above the higher threshold is above the lower one. -/
theorem openMarks_numR_of_threshold_le {L : ℕ} {avg ratio ratio' : ℝ} {bins : List (Cplx ℝ)} {i : ℕ}
    (hthr : threshold numR (newAverage numR L avg bins) ratio ≤ threshold numR (newAverage numR L avg bins) ratio')
    (h : (openMarks numR L ratio' avg bins)[i]? = some true) : (openMarks numR L ratio avg bins)[i]? = some true := by
  rw [openMarks_getElem?, Option.map_eq_some_iff] at h ⊢
  obtain ⟨l, hl, habove⟩ := h
  exact ⟨l, hl, (numR_gt _ _).2 (hthr.trans_lt ((numR_gt _ _).1 habove))⟩

/-- At count 0, where the bin is zeroed outright, the gain's formula would give 0 too. -/
theorem ite_gain_numR_eq_sqrt (W c : ℕ) :
    (if c = 0 then 0 else gain numR W c) = Real.sqrt (c / (2 * W : ℕ)) := by
  split_ifs with h
  · simp [h]
  · rfl

/-- Settles O56. -/
theorem raisingTheThresholdOpensNoBin : Obligations.RaisingTheThresholdOpensNoBin := by
  intro F W L avg ratio ratio' bins hL havg hratio
  have hthr := threshold_numR_mono (newAverage_numR_nonneg hL havg bins) hratio
  have hopen : ∀ i : ℕ, (openMarks numR L ratio' avg bins)[i]? = some true →
      (openMarks numR L ratio avg bins)[i]? = some true := fun i => openMarks_numR_of_threshold_le hthr
  refine ⟨hthr, hopen, fun i c c' hc hc' => ?_⟩
  have hle : c' ≤ c := by
    rw [hc, hc']
    exact windowCount_mono F W hopen i
  rw [ite_gain_numR_eq_sqrt, ite_gain_numR_eq_sqrt]
  exact ⟨hle, Real.sqrt_le_sqrt (div_le_div_of_nonneg_right (Nat.cast_le.2 hle) (Nat.cast_nonneg _))⟩

end Sys2Proof.Machine

/-! ### The ports and readiness (R214, R216, R218) -/

namespace Sys2Proof.Machine

/-- The direction bit alone makes a transfer a POP (R90). -/
theorem decodeTransfer_of_pop (re im : Word) : decodeTransfer (1#1 ++ re ++ im) = .pop :=
  if_pos (by rw [BitVec.getLsbD_append, BitVec.getLsbD_append]; simp)

/-- Settles O32, by whether `outq` is empty. -/
theorem popReturnsTheOldestSample : Obligations.PopReturnsTheOldestSample := by
  refine ⟨fun re im => congrArg Except.ok (decodeTransfer_of_pop re im), fun s => ⟨?_, fun x rest h => ?_, fun h => ?_⟩⟩
  · rw [State.holds_pop, Bool.not_eq_false', State.outValid_iff]
  · exact congrArg Host.Outcome.next (State.popOut_cons h)
  · exact congrArg Host.Outcome.next (State.popOut_nil h)

variable {S : Type} {P : Params S} {s t : State S}

@[simp] theorem State.raise_canProcess (P : Params S) (s : State S) (e : Event) :
    (s.raise e).canProcess P = s.canProcess P := by
  cases e <;> rfl

/-- With a longer `inq` and a shorter `outq` the stage stays ready. -/
theorem State.canProcess_mono (hs : s.canProcess P = true) (hst : t.st = s.st) (hblock : t.block = s.block)
    (hin : s.inq.length ≤ t.inq.length) (hout : t.outq.length ≤ s.outq.length) : t.canProcess P = true := by
  obtain ⟨hidle, hfull, hroom⟩ := (State.canProcess_iff P s).1 hs
  rw [← hblock] at hfull hroom
  exact (State.canProcess_iff P t).2
    ⟨hst.trans hidle, hfull.trans hin, hroom.trans (Nat.sub_le_sub_left hout _)⟩

/-- Only the operations that touch the sequencer state or a FIFO change `canProcess`. -/
theorem Action.Does.canProcess_eq {a : Action} (h : a.Does P s t) (hpush : ∀ x, a ≠ push x)
    (ha : a ∉ [pop, proc, flush, autostep, init, stop, .reset]) : t.canProcess P = s.canProcess P := by
  cases h with
  | pushed x => exact absurd rfl (hpush x)
  | block hblock => exact absurd (List.mem_cons_of_mem pop (List.mem_append_left [init, stop, .reset] hblock)) ha
  | popped | started | stopped | reset => exact absurd (by simp) ha
  | raised => exact State.raise_canProcess P s _
  | _ => rfl

/-- Once true, `canProcess` outlives every action but a block step, STOP and reset: a PUSH only adds input, a POP only makes
room, and an INIT makes no stage where there is one. -/
theorem Action.Does.canProcess_stays {a : Action} (h : a.Does P s t) (ha : a ∉ [proc, flush, autostep, stop, .reset])
    (hs : s.canProcess P = true) : t.canProcess P = true := by
  cases h with
  | block hblock => exact absurd (List.mem_append_left [stop, .reset] hblock) ha
  | stopped | reset => exact absurd (by simp) ha
  | started _ hunconf => simp [State.canProcess_iff, hunconf] at hs
  | pushed x => exact State.canProcess_mono hs rfl rfl (List.prefix_append s.inq [x]).length_le le_rfl
  | popped => exact State.canProcess_mono hs s.popOut_st (by simp [State.block]) (by simp) (by simp)
  | raised => rwa [State.raise_canProcess]
  | _ => exact hs

/-- Settles O43, by what each action can do to readiness. -/
theorem canProcessStaysUntilABlock : Obligations.CanProcessStaysUntilABlock := by
  intro i s t h hne
  have hdoes := does_of_exec h
  refine ⟨?_, fun hs => ?_⟩
  · by_contra hi
    obtain ⟨hpush, hi⟩ := not_or.1 hi
    exact hne (hdoes.canProcess_eq (fun x ha => hpush ⟨x.re, x.im, eq_of_actionOf_eq ha rfl⟩) (actionOf_notMem rfl hi))
  · by_contra hi
    exact hne ((hdoes.canProcess_stays (actionOf_notMem rfl hi) hs).trans hs.symm)

end Sys2Proof.Machine

/-! ### No operation and no step ends in a fault or a refusal (R246, R248) -/

namespace Sys2Proof.Machine

variable {S : Type}

/-- A step ends in a fault or a refusal only where the operation it runs does: to decide whose turn it is, to wait and to
refuse a request have a next state of their own. -/
theorem exists_stepWith_eq_next (P : Params S) {run : Instr → State S → Host.Outcome (State S) Fault Refusal}
    (hrun : ∀ i s, ∃ t, run i s = .next t) (s : State S) : ∃ t, stepWith P run s = .next t := by
  obtain ⟨_, _, hengine⟩ | ⟨_, _, _, _, _, _, hhost⟩ | ⟨_, _, _, _, _, hrefused⟩ | ⟨_, _, hwait⟩ :=
    stepWith_cases (P := P) (run := run) s
  · exact hengine ▸ hrun _ _
  · exact hhost ▸ hrun _ _
  · exact ⟨_, hrefused⟩
  · exact ⟨_, hwait⟩

/-- Settles O11: every operation does what its action does, and an action always has a next state. -/
theorem everyStepHasANextState : Obligations.EveryStepHasANextState :=
  have hexec (i : Instr) (s : State) : ∃ t, exec i s = .next t := ⟨_, exec_eq_run i s⟩
  have hexecOf (S : Type) (P : Params S) (i : Instr) (s : State S) : ∃ t, execOf P i s = .next t :=
    ⟨_, execOf_eq_run P i s⟩
  ⟨hexec, exists_stepWith_eq_next thePart hexec,
    fun S P => ⟨hexecOf S P, exists_stepWith_eq_next P (hexecOf S P)⟩⟩

end Sys2Proof.Machine

/-! ### RESET and the inert state it leaves (R40, R270, R272) -/

namespace Sys2Proof.Machine

/-- Settles O33: the block's state is that of `State.cleared`. -/
theorem resetClearsTheBlock : Obligations.ResetClearsTheBlock := fun s =>
  ⟨s.resetBlock thePart, rfl, by and_intros <;> rfl⟩

/-- R8 as `lawful` imposes it (log entry 3): the zero that `ratio` and `avg` hold after RESET reads as the word 0. -/
theorem thePart_enc32_zero : thePart.num.enc32 thePart.num.zero = 0 := by
  rw [thePart, lawfulPart_num, lawful_enc32, lawful_zero, if_pos rfl]

variable {S : Type} {P : Params S} {s : State S}

/-! #### Without a stage (R24) -/

theorem State.not_canProcess_of_unconf (h : s.st = .unconf) : ¬s.canProcess P = true := by
  simp [State.canProcess_iff, h]

/-- Without a stage a PUSH waits (R212). -/
theorem State.holds_push_of_unconf (h : s.st = .unconf) (re im : Word) : s.holds P (.push re im) = true := by
  simp [State.inReady_eq_decide, h]

/-- Without a stage every command word but those of NOP and INIT raises ERR_SEQ alone: PROC, FLUSH, SETTHR and STOP ask for
a stage, and the words from 6 up are reserved (R98, R100, R242). -/
theorem State.run_decodeCommand_of_unconf (h : s.st = .unconf) {w : Word} (hw : 1 < w.toNat) :
    (actionOf (decodeCommand w)).run P s = s.raise .seq := by
  by_cases hres : 6 ≤ w.toNat
  · rw [actionOf_decodeCommand_of_ge hres]; rfl
  · have hcodes : w = 2 ∨ w = 3 ∨ w = 4 ∨ w = 5 := by bv_omega
    obtain rfl | rfl | rfl | rfl := hcodes
    · exact State.procCommand_of_not_canProcess (State.not_canProcess_of_unconf h)
    · exact State.flushCommand_of_unconf h
    · exact State.setthrCommand_of_unconf h
    · exact if_neg (State.not_conf_of_unconf h)

/-- Without a stage an INIT is in sequence (R242): it makes a stage or raises ERR_CFG. -/
theorem State.initCommand_errSeq_of_unconf (h : s.st = .unconf) : (s.initCommand P).errSeq = s.errSeq := by
  rw [State.initCommand_of_unconf h]
  cases s.acceptedThreshold P <;> rfl

/-- Without a stage an INIT shows: in the sequencer state where it makes a stage, in ERR_CFG where it does not. -/
theorem State.initCommand_ne_of_unconf (h : s.st = .unconf) (herr : s.errCfg = false) : s.initCommand P ≠ s := by
  cases hd : s.acceptedThreshold P with
  | none => exact ne_of_apply_ne State.errCfg (by simp [State.initCommand_of_not_accepted h hd, herr])
  | some d => exact ne_of_apply_ne State.st (by simp [State.initCommand_of_accepted h hd, h])

/-! #### After RESET -/

/-- After RESET no level output is high. -/
theorem State.resetBlock_statusWord (P : Params S) (s : State S) : (s.resetBlock P).statusWord P = 0 := by
  simp [State.statusWord, State.conf, State.canProcess, State.inReady, State.outValid, bitAt, State.cleared]

/-- After RESET every register reads 0 (R272), as long as the part's zero does. -/
theorem State.resetBlock_reg (hzero : P.num.enc32 P.num.zero = 0) (s : State S) (r : Reg) :
    (s.resetBlock P).reg P r = 0 := by
  cases r with
  | status => exact s.resetBlock_statusWord P
  | ratio | avg => exact hzero
  | _ => rfl

/-- Settles O35: after RESET there is no stage, `outq` is empty and no flag is set. -/
theorem inertAfterReset : Obligations.InertAfterReset := by
  intro s t h
  obtain rfl : t = s.resetBlock thePart := eq_run_of_exec h
  have hst : (s.resetBlock thePart).st = .unconf := rfl
  refine ⟨State.autoEnabled_of_unconf hst, State.holds_push_of_unconf hst, rfl,
    State.resetBlock_reg thePart_enc32_zero s, nopChangesNothing.2 _, ⟨_, rfl, ?_, ?_⟩, fun w hw => ⟨_, rfl, ?_⟩⟩
  · exact State.initCommand_errSeq_of_unconf hst
  · exact State.initCommand_ne_of_unconf hst rfl
  · rw [exec_eq_run]
    exact congrArg Host.Outcome.next (State.run_decodeCommand_of_unconf hst hw)

end Sys2Proof.Machine


/-! ### Whose step it is (R66, R67, R212, R214, R220, R224, R226) -/

namespace Sys2Proof.Machine

variable {S : Type} {P : Params S} {s t : State S} {r : Request} {rest : List Request}
  {run : Instr → State S → Host.Outcome (State S) Fault Refusal}

/-- An access that is no operation does not wait: it is refused. -/
theorem State.holdsRequest_of_decode_error {e : DecodeError} (h : decode r = .error e) :
    s.holdsRequest P r = false := by
  rw [State.holdsRequest, h]

theorem State.hostWaits_of_holdsRequest (hhost : s.host = r :: rest) (hr : s.holdsRequest P r = true) :
    s.hostWaits P := by
  intro q l h
  obtain ⟨rfl, -⟩ := List.cons.inj (hhost.symm.trans h)
  exact hr

/-- The host has no step, or its oldest request is one. -/
theorem State.hostWaits_or_oldest (P : Params S) (s : State S) :
    s.hostWaits P ∨ ∃ r rest, s.host = r :: rest ∧ s.holdsRequest P r = false := by
  cases hhost : s.host with
  | nil => exact .inl fun q l h => by simp [hhost] at h
  | cons r rest =>
    cases hr : s.holdsRequest P r with
    | true => exact .inl (State.hostWaits_of_holdsRequest hhost hr)
    | false => exact .inr ⟨r, rest, rfl, hr⟩

/-- Where the host has no step, only the engine can have one. -/
theorem State.nextMove_of_hostWaits (h : s.hostWaits P) :
    s.nextMove P = if s.autoEnabled P then .engine else .wait := by
  rw [State.nextMove]
  cases hhost : s.host with
  | nil => rfl
  | cons r rest => exact if_pos (h r rest hhost)

/-- Where the host has a step, the engine's comes first only if it is enabled and it is the engine's turn. -/
theorem State.nextMove_of_oldest (hhost : s.host = r :: rest) (hr : s.holdsRequest P r = false) :
    s.nextMove P = if s.autoEnabled P && s.turn == .engine then .engine else .host r rest := by
  simp [State.nextMove, hhost, hr]

theorem State.nextMove_eq_host (hhost : s.host = r :: rest) (hr : s.holdsRequest P r = false)
    (hturn : s.autoEnabled P = false ∨ s.turn = .host) : s.nextMove P = .host r rest := by
  rw [State.nextMove_of_oldest hhost hr]
  obtain h | h := hturn <;> simp [h]

theorem State.nextMove_eq_engine (hauto : s.autoEnabled P = true) (h : s.turn = .engine ∨ s.hostWaits P) :
    s.nextMove P = .engine := by
  obtain hwaits | ⟨r, rest, hhost, hr⟩ := s.hostWaits_or_oldest P
  · rw [State.nextMove_of_hostWaits hwaits, if_pos hauto]
  · have hturn : s.turn = .engine := h.resolve_right fun hwaits => by simp [hwaits r rest hhost] at hr
    rw [State.nextMove_of_oldest hhost hr, hauto, hturn]
    rfl

theorem State.nextMove_eq_wait (hauto : s.autoEnabled P = false) (h : s.hostWaits P) : s.nextMove P = .wait := by
  rw [State.nextMove_of_hostWaits h, hauto]
  rfl

/-- A step of the host is its oldest request, and that need not wait (R67). -/
theorem State.oldest_of_nextMove (h : s.nextMove P = .host r rest) :
    s.host = r :: rest ∧ s.holdsRequest P r = false := by
  obtain hwaits | ⟨q, l, hhost, hq⟩ := s.hostWaits_or_oldest P
  · rw [State.nextMove_of_hostWaits hwaits] at h
    split_ifs at h
  · rw [State.nextMove_of_oldest hhost hq] at h
    split_ifs at h
    cases h
    exact ⟨hhost, hq⟩

/-- An enabled AUTOSTEP leaves no step in which nothing happens. -/
theorem State.autoEnabled_of_nextMove_wait (h : s.nextMove P = .wait) : s.autoEnabled P = false := by
  obtain hwaits | ⟨q, l, hhost, hq⟩ := s.hostWaits_or_oldest P
  · rw [State.nextMove_of_hostWaits hwaits] at h
    split_ifs at h with hauto
    exact Bool.eq_false_iff.2 hauto
  · rw [State.nextMove_of_oldest hhost hq] at h
    split_ifs at h

/-! #### What the step is -/

theorem stepWith_of_engine (h : s.nextMove P = .engine) : stepWith P run s = run .autostep (s.grant P s.host) := by
  simp [stepWith, h]

theorem stepWith_of_wait (h : s.nextMove P = .wait) : stepWith P run s = .next (s.grant P s.host) := by
  simp [stepWith, h]

theorem stepWith_of_host (h : s.nextMove P = .host r rest) {i : Instr} (hi : decode r = .ok i) :
    stepWith P run s = run i (s.grant P rest) := by
  simp [stepWith, h, hi]

theorem stepWith_of_refused (h : s.nextMove P = .host r rest) {e : DecodeError} (he : decode r = .error e) :
    stepWith P run s = .next ((s.grant P rest).refuseRequest r) := by
  simp [stepWith, h, he]

/-- Settles O6. -/
theorem stepRunsTheDecodedOperation : Obligations.StepRunsTheDecodedOperation := by
  intro s r rest i hhost hi hholds hturn
  have hr : s.holdsRequest thePart r = false := (State.holdsRequest_of_decode hi).trans hholds
  exact stepWith_of_host (State.nextMove_eq_host hhost hr hturn) hi

/-- Settles O8. -/
theorem engineStepsWhenItsTurn : Obligations.EngineStepsWhenItsTurn := by
  intro s hauto hcan h
  exact stepWith_of_engine (State.nextMove_eq_engine ((State.autoEnabled_iff thePart s).2 ⟨hauto, hcan⟩) h)

/-- Settles O9. -/
theorem nothingMovesWhereNothingIsEnabled : Obligations.NothingMovesWhereNothingIsEnabled := fun _ hauto h =>
  stepWith_of_wait (State.nextMove_eq_wait hauto h)

/-- A step at a request that is no operation refuses it. -/
theorem step_of_decode_error {s : State} {e : DecodeError} (hhost : s.host = r :: rest) (he : decode r = .error e)
    (hturn : s.autoEnabled thePart = false ∨ s.turn = .host) :
    step s = .next ((s.grant thePart rest).refuseRequest r) :=
  stepWith_of_refused (State.nextMove_eq_host hhost (State.holdsRequest_of_decode_error he) hturn) he

/-- Settles O10: neither access decodes. -/
theorem wrongSizeAccessRaisesBusError : Obligations.WrongSizeAccessRaisesBusError := by
  intro s offset data size rest hsize hturn
  have hread : decode (.read offset size) = .error (.accessSize size) := if_neg hsize
  have hwrite : decode (.write offset data size) = .error (.accessSize size) := if_neg hsize
  exact ⟨fun hhost => step_of_decode_error hhost hread hturn, fun hhost => step_of_decode_error hhost hwrite hturn⟩

/-! #### What a step leaves of the host's list -/

@[simp] theorem State.refuseRequest_host (s : State S) (r : Request) : (s.refuseRequest r).host = s.host := by
  cases r <;> rfl

/-- No operation adds a request or takes one. -/
theorem Effect.host_eq (h : Effect P s t) : t.host = s.host := by
  cases h with
  | raised | popped => simp
  | _ => rfl

theorem host_of_execOf {i : Instr} (h : execOf P i s = .next t) : t.host = s.host := (execOf_effect h).host_eq

/-- A step of the host takes its oldest request from the list, and nothing else (R67). -/
theorem host_of_stepOf_host (hmove : s.nextMove P = .host r rest) (h : stepOf P s = .next t) : t.host = rest := by
  rw [stepOf] at h
  cases hd : decode r with
  | ok i =>
    rw [stepWith_of_host hmove hd] at h
    exact host_of_execOf h
  | error e =>
    rw [stepWith_of_refused hmove hd] at h
    cases h
    exact State.refuseRequest_host _ r

/-- A step takes nothing from the host's list, or its oldest request, which then need not wait (R67). -/
theorem host_of_stepOf (h : stepOf P s = .next t) :
    t.host = s.host ∨ ∃ r, s.host = r :: t.host ∧ s.holdsRequest P r = false := by
  cases hmove : s.nextMove P with
  | engine =>
    rw [stepOf, stepWith_of_engine hmove] at h
    exact .inl ((host_of_execOf h).trans (State.grant_host P s s.host))
  | host r rest =>
    rw [host_of_stepOf_host hmove h]
    exact .inr ⟨r, State.oldest_of_nextMove hmove⟩
  | wait =>
    rw [stepOf, stepWith_of_wait hmove] at h
    cases h
    exact .inl rfl

/-- Where the host has no step, the step is the AUTOSTEP or nothing happens. -/
theorem stepWith_of_hostWaits (h : s.hostWaits P) : stepWith P run s =
    if s.autoEnabled P then run .autostep (s.grant P s.host) else .next (s.grant P s.host) := by
  have hmove := State.nextMove_of_hostWaits h
  split_ifs at hmove ⊢
  · exact stepWith_of_engine hmove
  · exact stepWith_of_wait hmove

theorem State.inReady_eq_false_iff (P : Params S) (s : State S) :
    s.inReady P = false ↔ s.st = .unconf ∨ P.capIn ≤ s.inq.length := by
  rw [← State.conf_eq_false_iff, ← not_lt, State.inReady, Bool.and_eq_false_iff, decide_eq_false_iff_not]

theorem State.outValid_eq_false_iff (s : State S) : s.outValid = false ↔ s.outq = [] := by
  rw [State.outValid, decide_eq_false_iff_not, List.length_pos_iff, not_not]

/-- Settles O7, by what the step does to the list, by the waiting host, and by what makes an operation wait. -/
theorem hostStepsHappenInTheOrderIssued : Obligations.HostStepsHappenInTheOrderIssued := by
  refine ⟨fun s t h => host_of_stepOf (step_eq s ▸ h), fun s r rest i hhost hi hholds => ?_, fun s i => ?_⟩
  · have hr : s.holdsRequest thePart r = true := (State.holdsRequest_of_decode hi).trans hholds
    exact stepWith_of_hostWaits (State.hostWaits_of_holdsRequest hhost hr)
  · rw [State.holds_iff, State.inReady_eq_false_iff, State.outValid_eq_false_iff]

/-! #### The engine's progress -/

/-- Each step that is not the engine's takes one of the host's requests, and none is added. -/
theorem exists_run_to_engine (requests : List Request) (s : State) (hhost : s.host = requests)
    (hauto : s.autoEnabled thePart = true) : ∃ k t, k ≤ requests.length ∧ Sys2Proof.core.run k s = .next t ∧
      (t.nextMove thePart = .engine ∨ t.autoEnabled thePart = false) := by
  induction requests generalizing s with
  | nil =>
    have hwaits : s.hostWaits thePart := fun q l h => by simp [hhost] at h
    exact ⟨0, s, le_rfl, rfl, .inl (State.nextMove_eq_engine hauto (.inr hwaits))⟩
  | cons r rest ih =>
    cases hmove : s.nextMove thePart with
    | engine => exact ⟨0, s, Nat.zero_le _, rfl, .inl hmove⟩
    | wait => exact absurd hauto (Bool.eq_false_iff.1 (State.autoEnabled_of_nextMove_wait hmove))
    | host q l =>
      obtain ⟨-, rfl⟩ := List.cons.inj (hhost.symm.trans (State.oldest_of_nextMove hmove).1)
      obtain ⟨t, ht⟩ := everyStepHasANextState.2.1 s
      have hlist : t.host = rest := host_of_stepOf_host hmove (step_eq s ▸ ht)
      cases hready : t.autoEnabled thePart with
      | false => exact ⟨1, t, Nat.succ_le_succ (Nat.zero_le _), run_succ ht, .inr hready⟩
      | true =>
        obtain ⟨k, u, hk, hrun, hu⟩ := ih t hlist hready
        exact ⟨k + 1, u, Nat.succ_le_succ hk, (run_succ ht).trans hrun, hu⟩

/-- Settles O12. -/
theorem engineProgressIsBounded : Obligations.EngineProgressIsBounded := fun s hauto =>
  exists_run_to_engine s.host s rfl hauto

/-! ### AUTOSTEP, PUSH and RESET by their cases (R212, R216, R220, R270) -/

theorem State.autostep_of_autoEnabled (h : s.autoEnabled P = true) : s.autostep P = s.runBlock P s.block := if_pos h

theorem State.autostep_of_not_autoEnabled (h : ¬s.autoEnabled P = true) : s.autostep P = s := if_neg h

/-- Settles O24, by whether an AUTOSTEP is enabled. -/
theorem autostepIsALegalProc : Obligations.AutostepIsALegalProc := by
  refine fun s => ⟨fun hauto hst hin hout => ?_, fun h => ?_⟩
  · have hcan : s.canProcess thePart = true := (State.canProcess_iff thePart s).2 ⟨hst, hin, hout⟩
    have hblock := State.autostep_of_autoEnabled ((State.autoEnabled_iff thePart s).2 ⟨hauto, hcan⟩)
    exact ⟨congrArg Host.Outcome.next hblock,
      congrArg Host.Outcome.next (hblock.trans (State.procCommand_of_canProcess hcan).symm)⟩
  · refine congrArg Host.Outcome.next (State.autostep_of_not_autoEnabled fun hauto => h ?_)
    obtain ⟨hauto, hcan⟩ := (State.autoEnabled_iff thePart s).1 hauto
    exact ⟨hauto, (State.canProcess_iff thePart s).1 hcan⟩

theorem State.push_of_inReady (h : s.inReady P = true) (x : Sample) : s.push P x = s.pushIn x := if_pos h

theorem State.push_of_not_inReady (h : ¬s.inReady P = true) (x : Sample) : s.push P x = s := if_neg h

/-- Settles O31, by whether `inq` takes a sample. -/
theorem pushAppendsOrWaits : Obligations.PushAppendsOrWaits := by
  intro re im s
  have hready := State.inReady_iff thePart s
  refine ⟨congrArg Except.ok (decodeTransfer_pushKey re im), ?_, fun hst hlen => ?_, fun h => ?_⟩
  · rw [State.holds_push, Bool.not_eq_false', hready]
  · exact congrArg Host.Outcome.next (State.push_of_inReady (hready.2 ⟨hst, hlen⟩) ⟨re, im⟩)
  · exact congrArg Host.Outcome.next (State.push_of_not_inReady (mt hready.1 h) ⟨re, im⟩)

/-- RESET looks at the model's own four fields only. -/
theorem State.resetBlock_congr {s s' : State S} (hhost : s.host = s'.host) (hturn : s.turn = s'.turn)
    (htick : s.tick = s'.tick) (hreply : s.reply = s'.reply) : s.resetBlock P = s'.resetBlock P := by
  rw [State.resetBlock, State.resetBlock, hhost, hturn, htick, hreply]

/-- Settles O34. -/
theorem resetKeepsTheHostsSide : Obligations.ResetKeepsTheHostsSide := by
  refine ⟨fun s t h => ?_, fun s s' hhost hturn htick hreply =>
    congrArg Host.Outcome.next (State.resetBlock_congr hhost hturn htick hreply)⟩
  obtain rfl : t = s.resetBlock thePart := eq_run_of_exec h
  exact ⟨rfl, rfl, rfl, rfl⟩

/-! ### The words register reads answer (R30, R32) -/

/-- CTRL reads as its two bits below thirty zeros (R32). -/
theorem ctrl_setWidth (c : BitVec 2) : c.setWidth 32 = 0#30 ++ c := by
  revert c; decide

/-- Settles O28: each read answers its register's word. -/
theorem registerReadsAnswerTheWord : Obligations.RegisterReadsAnswerTheWord := by
  intro s
  rw [← ctrl_setWidth]
  and_intros <;> rfl

end Sys2Proof.Machine

/-! ### The part and its record held to R6 and R8 (R6, R7, R8, R12) -/

namespace Sys2Proof.Machine

/-- The exponent field as a number (R12). -/
theorem toNat_extractLsb'_exponent (w : Word) : (w.extractLsb' 23 8).toNat = w.toNat / 2 ^ 23 % 2 ^ 8 := by
  rw [BitVec.extractLsb'_toNat, Nat.shiftRight_eq_div_pow]

theorem isFinite32_eq_false_iff (w : Word) : isFinite32 w = false ↔ w.toNat / 2 ^ 23 % 2 ^ 8 = 255 := by
  rw [isFinite32, bne_eq_false_iff_eq, BitVec.toNat_eq, toNat_extractLsb'_exponent]
  rfl

/-- Settles O18. -/
theorem dec32NoneExactlyOnNonFinitePatterns : Obligations.Dec32NoneExactlyOnNonFinitePatterns := by
  intro S N w
  rw [← isFinite32_eq_false_iff, dec32]
  cases isFinite32 w <;> simp

section Lawful

variable {S : Type} [DecidableEq S]

theorem all_decide_eq_true_iff {α : Type} [DecidableEq α] {l : List α} {z : α} :
    l.all (fun x => decide (x = z)) = true ↔ ∀ x ∈ l, x = z := by
  simp only [List.all_eq_true, decide_eq_true_eq]

/-- A record held to the laws keeps them, whatever it was (log entry 3). -/
theorem lawful_zeroLaws (N : Numerics S) : (lawful N).ZeroLaws where
  zero_add _ := if_pos rfl
  add_zero x := (ite_congr rfl (fun hx => hx.symm) fun _ => if_pos rfl).trans (ite_self x)
  zero_mul _ := if_pos (.inl rfl)
  mul_zero _ := if_pos (.inr rfl)
  sub_zero _ := if_pos rfl
  zero_div _ _ := if_pos rfl
  sumF_zero _ h := if_pos (all_decide_eq_true_iff.2 h)
  maxF_zero _ h := if_pos (all_decide_eq_true_iff.2 h)
  gt_zero := if_pos ⟨rfl, rfl⟩
  fwd_zero _ _ h := if_pos (all_decide_eq_true_iff.2 h)
  inv_zero _ _ h := if_pos (all_decide_eq_true_iff.2 h)
  dec_zero := by rw [lawful_decFinite, if_pos rfl, lawful_zero]
  enc_zero := if_pos rfl
  ofNat_zero := rfl
  ofNat_one := rfl

/-- A part held to R6 and R8 is one they admit. -/
theorem lawfulPart_ok (P : Params S) : PartOk (lawfulPart P) where
  laws := lawful_zeroLaws P.num
  fmax_ge := Nat.le_max_left _ _
  capIn_ge := Nat.le_max_left _ _
  capOut_ge := Nat.le_max_left _ _
  supported_fits _ h := (Bool.and_eq_true_iff.1 h).1

theorem thePart_ok : PartOk thePart := lawfulPart_ok _

end Lawful

/-! #### Imposing them where they hold -/

section Admitted

variable {S : Type} {P : Params S} {F : Nat}

theorem lengthFits_iff {fmax capIn capOut : Nat} :
    lengthFits fmax capIn capOut F = true ↔ 32 ≤ F ∧ F ≤ fmax ∧ F - overlap F ≤ min capIn capOut :=
  decide_eq_true_iff

theorem PartOk.lawfulPart_fmax [DecidableEq S] (h : PartOk P) : (lawfulPart P).fmax = P.fmax := max_eq_right h.fmax_ge

theorem PartOk.lawfulPart_capIn [DecidableEq S] (h : PartOk P) : (lawfulPart P).capIn = P.capIn :=
  max_eq_right h.capIn_ge

theorem PartOk.lawfulPart_capOut [DecidableEq S] (h : PartOk P) : (lawfulPart P).capOut = P.capOut :=
  max_eq_right h.capOut_ge

theorem PartOk.lawfulPart_supported [DecidableEq S] (h : PartOk P) (F : Nat) :
    (lawfulPart P).supported F = P.supported F := by
  have hfits : P.supported F = true →
      lengthFits (lawfulPart P).fmax (lawfulPart P).capIn (lawfulPart P).capOut F = true := by
    rw [h.lawfulPart_fmax, h.lawfulPart_capIn, h.lawfulPart_capOut]
    exact h.supported_fits F
  exact Bool.and_eq_right_iff_imp.2 hfits

/-- The bounds of R6 as numbers. -/
theorem PartOk.bounds (h : PartOk P) : 32 ≤ P.fmax ∧ 31 ≤ P.capIn ∧ 31 ≤ P.capOut ∧
    ∀ F, P.supported F = true → 32 ≤ F ∧ F ≤ P.fmax ∧ F - max 1 (F / 64) ≤ min P.capIn P.capOut :=
  ⟨h.fmax_ge, h.capIn_ge, h.capOut_ge, fun F hF => lengthFits_iff.1 (h.supported_fits F hF)⟩

/-- Settles O19. -/
theorem supportedLengthsFit : Obligations.SupportedLengthsFit :=
  ⟨fun _ _ h => h.bounds, thePart_ok.bounds, fun _ _ _ h =>
    ⟨h.lawfulPart_fmax, h.lawfulPart_capIn, h.lawfulPart_capOut, h.lawfulPart_supported⟩⟩

end Admitted

end Sys2Proof.Machine

namespace Sys2Proof.Numerics.ZeroLaws

open Machine

variable {S : Type} [DecidableEq S] {N : Numerics S} (laws : N.ZeroLaws)
include laws

theorem lawful_ofNat_eq : (lawful N).ofNat = N.ofNat := by
  funext n
  rw [lawful_ofNat]
  split_ifs with h0 h1
  · rw [h0, laws.ofNat_zero]
  · rw [h1, laws.ofNat_one]
  · rfl

theorem lawful_add_eq : (lawful N).add = N.add := by
  funext x y
  rw [lawful_add]
  split_ifs with hx hy
  · rw [hx, laws.zero_add]
  · rw [hy, laws.add_zero]
  · rfl

theorem lawful_sub_eq : (lawful N).sub = N.sub := by
  funext x y
  exact ite_eq_right_iff.2 fun hy => by rw [hy, laws.sub_zero]

theorem lawful_mul_eq : (lawful N).mul = N.mul := by
  funext x y
  refine ite_eq_right_iff.2 ?_
  rintro (hx | hy)
  · rw [hx, laws.zero_mul]
  · rw [hy, laws.mul_zero]

/-- The law of `div` is for the divisors `ofNat k` with `k` at least 1, and so is this. -/
theorem lawful_div_ofNat_eq (x : S) {k : Nat} (hk : 1 ≤ k) :
    (lawful N).div x (N.ofNat k) = N.div x (N.ofNat k) :=
  ite_eq_right_iff.2 fun hx => by rw [hx, laws.zero_div k hk]

theorem lawful_gt_eq : (lawful N).gt = N.gt := by
  funext x y
  refine ite_eq_right_iff.2 ?_
  rintro ⟨hx, hy⟩
  rw [hx, hy, laws.gt_zero]

theorem lawful_sumF_eq : (lawful N).sumF = N.sumF := by
  funext l
  exact ite_eq_right_iff.2 fun hl => (laws.sumF_zero l (all_decide_eq_true_iff.1 hl)).symm

theorem lawful_maxF_eq : (lawful N).maxF = N.maxF := by
  funext l
  exact ite_eq_right_iff.2 fun hl => (laws.maxF_zero l (all_decide_eq_true_iff.1 hl)).symm

theorem lawful_decFinite_eq : (lawful N).decFinite = N.decFinite := by
  funext w
  rw [lawful_decFinite]
  exact ite_eq_right_iff.2 fun hw => by rw [hw, laws.dec_zero]

theorem lawful_enc32_eq : (lawful N).enc32 = N.enc32 := by
  funext x
  exact ite_eq_right_iff.2 fun hx => by rw [hx, laws.enc_zero]

theorem lawful_fwd_eq : (lawful N).fwd = N.fwd := by
  funext v k
  exact ite_eq_right_iff.2 fun hv => (laws.fwd_zero v k (all_decide_eq_true_iff.1 hv)).symm

theorem lawful_inv_eq : (lawful N).inv = N.inv := by
  funext v k
  exact ite_eq_right_iff.2 fun hv => (laws.inv_zero v k (all_decide_eq_true_iff.1 hv)).symm

end Sys2Proof.Numerics.ZeroLaws

namespace Sys2Proof.Machine

/-- Settles O53, entry by entry. -/
theorem everyPartKeepsTheZeroLaws : Obligations.EveryPartKeepsTheZeroLaws :=
  ⟨thePart_ok, fun _ _ => lawfulPart_ok, fun _ _ _ laws =>
    ⟨rfl, rfl, laws.lawful_ofNat_eq, laws.lawful_add_eq, laws.lawful_sub_eq, laws.lawful_mul_eq,
      fun x _ hk => laws.lawful_div_ofNat_eq x hk, rfl, laws.lawful_gt_eq, laws.lawful_sumF_eq, laws.lawful_maxF_eq, rfl,
      laws.lawful_decFinite_eq, laws.lawful_enc32_eq, laws.lawful_fwd_eq, laws.lawful_inv_eq⟩⟩

end Sys2Proof.Machine

/-! ### Sample streams as bytes (R63, R64, R104) -/

namespace Sys2Proof.Machine

variable {extra : List (BitVec 8)}

/-- A word has four bytes, and read back in either order they are the word (R64). -/
theorem wordOfBytes_wordBytes (o : ByteOrder) (w : Word) :
    ∃ a b c d, wordBytes o w = [a, b, c, d] ∧ wordOfBytes o a b c d = w := by
  have hword : w.extractLsb' 24 8 ++ w.extractLsb' 16 8 ++ w.extractLsb' 8 8 ++ w.extractLsb' 0 8 = w := by
    have hjoin (start len n : Nat) :
        w.extractLsb' (start + len) n ++ w.extractLsb' start len = w.extractLsb' start (n + len) :=
      BitVec.extractLsb'_append_extractLsb'_eq_extractLsb' rfl
    rw [hjoin 16 8, hjoin 8 8, hjoin 0 8, BitVec.extractLsb'_eq_self]
  cases o with
  | little => exact ⟨_, _, _, _, rfl, hword⟩
  | big => exact ⟨_, _, _, _, rfl, hword⟩

/-- A partial REAL sample is discarded (R63). -/
theorem realSamples_of_partial (o : ByteOrder) (h : extra.length < 4) : realSamples o extra = [] := by
  match extra, h with
  | [], _ | [_], _ | [_, _], _ | [_, _, _], _ => rfl

/-- A partial COMPLEX sample is discarded (R63). -/
theorem complexSamples_of_partial (o : ByteOrder) (h : extra.length < 8) : complexSamples o extra = [] := by
  match extra, h with
  | [], _ | [_], _ | [_, _], _ | [_, _, _], _ | [_, _, _, _], _ | [_, _, _, _, _], _ | [_, _, _, _, _, _], _
  | [_, _, _, _, _, _, _], _ => rfl

theorem realSamples_sampleBytes_append (o : ByteOrder) (x : Sample) (rest : List (BitVec 8)) :
    realSamples o (sampleBytes o .real x ++ rest) = ⟨x.re, 0⟩ :: realSamples o rest := by
  obtain ⟨a, b, c, d, hbytes, hword⟩ := wordOfBytes_wordBytes o x.re
  rw [sampleBytes, hbytes, ← hword]
  rfl

theorem complexSamples_sampleBytes_append (o : ByteOrder) (x : Sample) (rest : List (BitVec 8)) :
    complexSamples o (sampleBytes o .complex x ++ rest) = x :: complexSamples o rest := by
  obtain ⟨a, b, c, d, hre, hreWord⟩ := wordOfBytes_wordBytes o x.re
  obtain ⟨a', b', c', d', him, himWord⟩ := wordOfBytes_wordBytes o x.im
  have hx : x = ⟨wordOfBytes o a b c d, wordOfBytes o a' b' c' d'⟩ := by rw [hreWord, himWord]
  rw [sampleBytes, hre, him, hx]
  rfl

theorem realSamples_stream (o : ByteOrder) (xs : List Sample) (h : extra.length < 4) :
    realSamples o (xs.flatMap (sampleBytes o .real) ++ extra) = xs.map fun x => ⟨x.re, 0⟩ := by
  induction xs with
  | nil => exact realSamples_of_partial o h
  | cons x xs ih =>
    rw [List.flatMap_cons, List.append_assoc, realSamples_sampleBytes_append, ih, List.map_cons]

theorem complexSamples_stream (o : ByteOrder) (xs : List Sample) (h : extra.length < 8) :
    complexSamples o (xs.flatMap (sampleBytes o .complex) ++ extra) = xs := by
  induction xs with
  | nil => exact complexSamples_of_partial o h
  | cons x xs ih => rw [List.flatMap_cons, List.append_assoc, complexSamples_sampleBytes_append, ih]

/-- Settles O60, by induction on the samples. -/
theorem serialisedSamplesReadBack : Obligations.SerialisedSamplesReadBack := fun o xs _ =>
  ⟨realSamples_stream o xs, complexSamples_stream o xs⟩

end Sys2Proof.Machine

/-! ### The reference instance encodes a finite value exactly (R9, R12) -/

namespace Sys2Proof.Machine

/-- The significand of a finite pattern (R12), as an integer: the fraction, and the leading 1 of a normal number. -/
def significand32 (w : Word) : ℕ := if w.toNat / 2 ^ 23 % 2 ^ 8 = 0 then w.toNat % 2 ^ 23 else 2 ^ 23 + w.toNat % 2 ^ 23

/-- The exponent field a pattern is scaled by (R12): subnormal numbers share that of the smallest normal ones. -/
def scale32 (w : Word) : ℕ := max 1 (w.toNat / 2 ^ 23 % 2 ^ 8)

theorem significand32_lt (w : Word) : significand32 w < 2 ^ 24 := by
  unfold significand32
  split_ifs <;> omega

theorem one_le_scale32 (w : Word) : 1 ≤ scale32 w := le_max_left _ _

theorem scale32_le_of_finite {w : Word} (h : isFinite32 w = true) : scale32 w ≤ 254 := by
  have hfield := (isFinite32_eq_false_iff w).not.1 (ne_false_of_eq_true h)
  unfold scale32
  omega

/-- Only subnormal numbers have a significand without the leading 1. -/
theorem scale32_eq_one_or_le_significand32 (w : Word) : scale32 w = 1 ∨ 2 ^ 23 ≤ significand32 w := by
  unfold scale32 significand32
  split_ifs with h
  · exact .inl (by rw [h]; rfl)
  · exact .inr (Nat.le_add_right _ _)

/-- Exponent field and fraction as one number. -/
theorem scale32_significand32 (w : Word) : (scale32 w - 1) * 2 ^ 23 + significand32 w = w.toNat % 2 ^ 31 := by
  unfold scale32 significand32
  split_ifs <;> omega

theorem getLsbD_31 (w : Word) : w.getLsbD 31 = decide (2 ^ 31 ≤ w.toNat) := BitVec.msb_eq_decide w

/-- R12 in one formula: the significand, scaled, with the sign. -/
theorem value32_eq (w : Word) : value32 w =
    (if 2 ^ 31 ≤ w.toNat then -1 else 1) * ((significand32 w : ℚ) * 2 ^ ((scale32 w : ℤ) - 150)) := by
  have hfraction : (w.extractLsb' 0 23).toNat = w.toNat % 2 ^ 23 := BitVec.extractLsb'_toNat 0 23 w
  have hmagnitude : (if w.toNat / 2 ^ 23 % 2 ^ 8 = 0 then ((w.toNat % 2 ^ 23 : ℕ) : ℚ) / 2 ^ 149
      else (((2 ^ 23 + w.toNat % 2 ^ 23) * 2 ^ (w.toNat / 2 ^ 23 % 2 ^ 8) : ℕ) : ℚ) / 2 ^ 150) =
      (significand32 w : ℚ) * 2 ^ ((scale32 w : ℤ) - 150) := by
    unfold significand32 scale32
    split_ifs with h
    · rw [h]
      norm_num [div_eq_mul_inv]
    · rw [max_eq_right (Nat.one_le_iff_ne_zero.2 h), zpow_sub₀ two_ne_zero, zpow_natCast, Nat.cast_mul, mul_div_assoc]
      norm_cast
  simp only [value32, toNat_extractLsb'_exponent, hfraction, hmagnitude, getLsbD_31, decide_eq_true_eq]
  split_ifs
  · rw [neg_one_mul]
  · rw [one_mul]

section Rounding

variable {K : Type} [Field K] [LinearOrder K] [IsStrictOrderedRing K] [FloorRing K] {m e : ℕ}

theorem roundEven_natCast (n : ℕ) : roundEven (n : K) = n := by
  rw [roundEven, Int.floor_natCast, Int.cast_natCast, sub_self, if_pos one_half_pos]

/-- A normal number, and a subnormal one at the smallest exponent, is rounded at its own exponent. -/
theorem exponent32_scaled (hm : 0 < m) (hlt : m < 2 ^ 24) (he : 1 ≤ e) (hnorm : e = 1 ∨ 2 ^ 23 ≤ m) :
    exponent32 ((m : K) * 2 ^ ((e : ℤ) - 150)) = e - 127 := by
  have hpos : (0 : K) < m * 2 ^ ((e : ℤ) - 150) := mul_pos (Nat.cast_pos.2 hm) (zpow_pos two_pos _)
  have hupper : Int.log 2 ((m : K) * 2 ^ ((e : ℤ) - 150)) < e - 126 := by
    rw [← Int.lt_zpow_iff_log_lt one_lt_two hpos]
    calc (m : K) * 2 ^ ((e : ℤ) - 150) < 2 ^ 24 * 2 ^ ((e : ℤ) - 150) :=
          mul_lt_mul_of_pos_right (by exact_mod_cast hlt) (zpow_pos two_pos _)
      _ = ((2 : ℕ) : K) ^ ((e : ℤ) - 126) := by
          rw [Nat.cast_ofNat, ← zpow_natCast, ← zpow_add₀ two_ne_zero]
          congr 1
          push_cast
          ring
  rw [exponent32]
  obtain rfl | hm := hnorm
  · omega
  · have hlower : (e : ℤ) - 127 ≤ Int.log 2 ((m : K) * 2 ^ ((e : ℤ) - 150)) := by
      rw [← Int.zpow_le_iff_le_log one_lt_two hpos]
      calc ((2 : ℕ) : K) ^ ((e : ℤ) - 127) = 2 ^ 23 * 2 ^ ((e : ℤ) - 150) := by
            rw [Nat.cast_ofNat, ← zpow_natCast, ← zpow_add₀ two_ne_zero]
            congr 1
            push_cast
            ring
        _ ≤ (m : K) * 2 ^ ((e : ℤ) - 150) :=
            mul_le_mul_of_nonneg_right (by exact_mod_cast hm) (zpow_nonneg two_pos.le _)
    omega

/-- Nothing is rounded away: the magnitude bits are the exponent field and the fraction. -/
theorem magnitude32_scaled (hm : 0 < m) (hlt : m < 2 ^ 24) (he : 1 ≤ e) (hnorm : e = 1 ∨ 2 ^ 23 ≤ m) :
    magnitude32 ((m : K) * 2 ^ ((e : ℤ) - 150)) = (e - 1) * 2 ^ 23 + m := by
  have hfield : ((e : ℤ) - 127 + 126).toNat = e - 1 := by omega
  have hunscaled : (m : K) * 2 ^ ((e : ℤ) - 150) * 2 ^ (23 - ((e : ℤ) - 127)) = m := by
    rw [mul_assoc, ← zpow_add₀ two_ne_zero, show (e : ℤ) - 150 + (23 - (e - 127)) = 0 by ring, zpow_zero, mul_one]
  rw [magnitude32, exponent32_scaled hm hlt he hnorm, hfield, hunscaled, roundEven_natCast, Int.toNat_natCast]

/-- A significand of 24 bits, scaled by a finite exponent field, is no more than the largest finite value. -/
theorem scaled_le_maxFinite32 (hlt : m < 2 ^ 24) (he : e ≤ 254) : (m : K) * 2 ^ ((e : ℤ) - 150) ≤ maxFinite32 := by
  have hscale : (2 : K) ^ ((e : ℤ) - 150) ≤ 2 ^ 104 := by
    rw [← zpow_natCast]
    exact zpow_le_zpow_right₀ one_le_two (by omega)
  exact mul_le_mul (Nat.cast_le.2 (by omega)) hscale (zpow_nonneg two_pos.le _) (Nat.cast_nonneg _)

/-- The encoding of a scaled significand: sign, exponent field and fraction side by side (R12). -/
theorem encode32_scaled (neg : Prop) [Decidable neg] (hm : 0 < m) (hlt : m < 2 ^ 24) (he : 1 ≤ e) (hfin : e ≤ 254)
    (hnorm : e = 1 ∨ 2 ^ 23 ≤ m) : encode32 ((if neg then -1 else 1) * ((m : K) * 2 ^ ((e : ℤ) - 150))) =
      BitVec.ofNat 32 ((e - 1) * 2 ^ 23 + m + if neg then 2 ^ 31 else 0) := by
  have hmag := magnitude32_scaled (K := K) hm hlt he hnorm
  have hmax := scaled_le_maxFinite32 (K := K) hlt hfin
  have hpos : (0 : K) < m * 2 ^ ((e : ℤ) - 150) := mul_pos (Nat.cast_pos.2 hm) (zpow_pos two_pos _)
  generalize (m : K) * 2 ^ ((e : ℤ) - 150) = a at hmag hmax hpos
  have habs : |(if neg then -1 else 1) * a| = a := by
    split_ifs <;> simp [abs_of_pos hpos]
  have hsign : (if neg then -1 else 1) * a < 0 ↔ neg := by
    split_ifs with h <;> simp [h, hpos, hpos.le]
  have hne : ¬((if neg then -1 else 1) * a = 0 ∨ magnitude32 a = 0) := by
    rw [← abs_eq_zero, habs, hmag, not_or]
    exact ⟨hpos.ne', by omega⟩
  rw [encode32, habs, if_neg hmax.not_gt, if_neg hne, hmag]
  simp only [hsign]

end Rounding

/-- The sign bit above the other 31. -/
theorem mod_add_sign (w : Word) : w.toNat % 2 ^ 31 + (if 2 ^ 31 ≤ w.toNat then 2 ^ 31 else 0) = w.toNat := by
  split_ifs <;> omega

/-- Only the two zero patterns have no significand (R12). -/
theorem eq_zero_of_significand32_eq_zero {w : Word} (h : significand32 w = 0) (hneg : w ≠ 0x80000000) : w = 0 := by
  unfold significand32 at h
  split_ifs at h
  · bv_omega
  · omega

theorem cast_value32_eq (w : Word) : (value32 w : ℝ) =
    (if 2 ^ 31 ≤ w.toNat then -1 else 1) * ((significand32 w : ℝ) * 2 ^ ((scale32 w : ℤ) - 150)) := by
  rw [value32_eq]
  split_ifs <;> simp

/-- Settles O59: the value of the pattern is its significand scaled, which is encoded without rounding. -/
theorem encodingAFiniteValueIsExact : Obligations.EncodingAFiniteValueIsExact := by
  intro w hfin hneg
  obtain h | hpos := (significand32 w).eq_zero_or_pos
  · rw [eq_zero_of_significand32_eq_zero h hneg, numR_zeroLaws.dec_zero, numR_zeroLaws.enc_zero]
  · rw [numR_enc32, numR_decFinite, cast_value32_eq, encode32_scaled _ hpos (significand32_lt w) (one_le_scale32 w)
      (scale32_le_of_finite hfin) (scale32_eq_one_or_le_significand32 w), scale32_significand32, mod_add_sign,
      BitVec.ofNat_toNat, BitVec.setWidth_eq]

end Sys2Proof.Machine
